-- ==== Sys2Proof/Word.lean ====
section
/-! DEFINITION. The word types of the block: every register is 32 bits wide (rule R5) and the counter's `Count` is the
same 32-bit unsigned type (rule R90). -/

namespace Sys2Proof

/-- `Register`: "a 32-bit unsigned integral value" (rule R5). -/
abbrev Word := BitVec 32

/-- `Count`, the type of `value`, of `max` and of a transform's argument and result (rule R90). -/
abbrev Count := Word

/-- A byte offset in the window as the 15-bit field `off` of a `BUS` command carries it (rule R66). -/
abbrev Offset := BitVec 15

end Sys2Proof
end

