-- ==== Sys2Proof/Syntax.lean ====
section
/-! DEFINITION. The operations of the block as syntax: one constructor of `Instr` per mnemonic of
spec/opcode_table.json (the closed set of rule R60), the events, the transforms of `APPLY`, the four word formats and
the command an operation is written as. -/

namespace Sys2Proof

/-- `ButtonEvent`: "closed variant {None, Button0, Button1, Button2, Button3, Multiple}" (rule R31). -/
inductive ButtonEvent where
  | none
  | button0
  | button1
  | button2
  | button3
  | multiple
  deriving DecidableEq, Repr, Inhabited

/-- The operand `f : Count -> Count` of `APPLY` (rule R94) as plain data.  `shr`, `shl` and `load` are the three
instances the block uses (rules R95 to R97); `table` writes out any other total function by its rows (the first row
whose key matches wins) and the value it has everywhere else (log entry 8). -/
inductive Transform where
  | shr
  | shl
  | load (swv : Word)
  | table (rows : List (Count × Count)) (otherwise : Count)
  deriving DecidableEq, Repr

/-- The operation set of rule R60, one constructor per mnemonic of spec/opcode_table.json. -/
inductive Instr where
  -- format BTN (rule R62): the six dispatch actions
  /-- `EV_NONE`, rule R116. -/
  | evNone
  /-- `EV_BTN0`, rule R117. -/
  | evBtn0
  /-- `EV_BTN1`, rule R118. -/
  | evBtn1
  /-- `EV_BTN2`, rule R119. -/
  | evBtn2
  /-- `EV_BTN3`, rule R120. -/
  | evBtn3
  /-- `EV_MULTI`, rule R122: the eleven rows of the table and every other word with `popcount >= 2`. -/
  | evMulti (w : Word)
  -- format BUS (rule R66): register access
  /-- `RD_BUTTONS`, rule R83. -/
  | rdButtons
  /-- `RD_SWITCHES`, rule R82. -/
  | rdSwitches
  /-- `WR_LEDS`, rule R84, with its operand `r` (the bus's `wdata`). -/
  | wrLeds (r : Word)
  /-- `ACCESS`, rule R80, the generic form: what the location is for (`we`) and its byte offset. -/
  | access (we : Bool) (off : Offset)
  -- format CNT (rule R67): the wrapped counter
  /-- `HOLD`, rule R67. -/
  | hold
  /-- `INC`, rule R92. -/
  | inc
  /-- `DEC`, rule R93. -/
  | dec
  /-- `SHR`, rule R95. -/
  | shr
  /-- `SHL`, rule R96. -/
  | shl
  /-- `LOAD`, rule R97, with its operand `swv`. -/
  | load (swv : Word)
  /-- `APPLY`, rule R94, with its operand `f`. -/
  | apply (f : Transform)
  -- format SEQ (rule R68): the sequencer steps
  /-- `POLL`, rule R114. -/
  | poll
  /-- `GATE`, rule R115, with its operand `cur` (its other operand is the register `prev`). -/
  | gate (cur : ButtonEvent)
  /-- `DISPATCH`, rule R121, with its operand `cur`. -/
  | dispatch (cur : ButtonEvent)
  /-- `LED_UPDATE`, rule R123. -/
  | ledUpdate
  /-- `PREV_UPDATE`, rule R124, with its operand `cur`. -/
  | prevUpdate (cur : ButtonEvent)
  /-- `SLEEP`, rule R127. -/
  | sleep
  /-- `HALT`, rule R128. -/
  | halt
  /-- `DECODE`, rule R105, with its operand `w`. -/
  | decode (w : Word)
  /-- `TO_REG`, rule R98. -/
  | toReg
  /-- `ITERATE`, rule R130. -/
  | iterate
  deriving DecidableEq, Repr

/-- The formats a command is written in: the four of rules R62 and R66 to R68, and `gen` for the five operations the
table says have no code of their own (`ACCESS`, `APPLY`, `DECODE`, `TO_REG`, `ITERATE`; log entry 6). -/
inductive Format where
  | btn
  | bus
  | cnt
  | seq
  | gen
  deriving DecidableEq, Repr

/-- One operation written out: its format, its code in that format (in the low bits of one 32-bit word, rule R61) and
its operand words. -/
structure Command where
  fmt : Format
  code : Word
  operands : List Word
  deriving DecidableEq, Repr

/-- Why the decoder reads no operation from a command. -/
inductive Reject where
  /-- The format assigns the code to no operation (rules R65, R67, R68, R71), or it is wider than the format. -/
  | unassignedCode (fmt : Format) (code : Nat)
  /-- The operation does not take this number of operand words. -/
  | operandCount (fmt : Format) (code : Nat)
  /-- An operand is no `EV` code (`0b110`, `0b111` and above, rules R65, R71). -/
  | eventCode (code : Nat)
  /-- A `BUS` command "other than the three of rule R66": an access the source does not describe (rule R71). -/
  | undescribedAccess (we : Bool) (off : Offset)
  /-- An operand is no `BUS` command: it is wider than 16 bits (rule R66). -/
  | busCommand (code : Nat)
  /-- An operand names no transform of `APPLY` (rule R94). -/
  | transformCode (code : Nat)
  deriving DecidableEq, Repr

end Sys2Proof
end

