-- ==== Sys2Proof/Config.lean ====
section
/-! DEFINITION. The parameters of 00_scope.md section 3, the admissible range of each, the parameters of the platform
`State.reset` starts from (OPEN: uninterpreted constants), and the free values of the environment and of reset. -/

namespace Sys2Proof

/-- The parameters of the block (00_scope.md section 3).  A state carries one value of this type, which no operation
changes, so a statement over every state is a statement over every admissible choice of the OPEN ones. -/
structure Params where
  /-- `BASE`, rule R3. -/
  base : Nat
  /-- `SPAN`, rule R4. -/
  span : Nat
  /-- `OFF_SWITCHES`, OPEN (rule R7). -/
  offSwitches : Offset
  /-- `OFF_BUTTONS`, OPEN (rule R7). -/
  offButtons : Offset
  /-- `OFF_LEDS`, OPEN (rule R7). -/
  offLeds : Offset
  /-- `LED_COUNT`, OPEN (rule R8). -/
  ledCount : Nat
  /-- `SWITCH_COUNT`, OPEN (rule R9). -/
  switchCount : Nat
  /-- `COUNTER_INIT`, OPEN (rule R12). -/
  counterInit : Count
  /-- `EV_HIGH_SINGLE`, OPEN (rule R13). -/
  evHighSingle : ButtonEvent
  /-- `REFRESH_PERIOD`, OPEN (rule R11: "strictly positive"); no rule computes with it.  That it is a whole number of some
  unit is the model's choice: rule R11 says the source gives "no value and no unit" (DESIGN CHOICE, log entry 1). -/
  refreshPeriod : Nat
  /-- `EXIT_FAIL_STATUS`, OPEN (rule R14: "any non-zero value").  That a process status is an integer, of either sign,
  is the model's choice: neither rule R14 nor N15 of 91_not_in_source.md says what numbers a status can be (DESIGN
  CHOICE, log entry 1). -/
  exitFailStatus : Int
  deriving DecidableEq, Repr

/-- `MAX = 2^LED_COUNT − 1` (rule R8). -/
def Params.max (p : Params) : Count := BitVec.ofNat 32 (2 ^ p.ledCount - 1)

/-- What rule R7 asks of one register offset: inside the span and a multiple of 4. -/
abbrev Params.OffsetWf (p : Params) (off : Offset) : Prop :=
  off.toNat + 4 ≤ p.span ∧ off.toNat % 4 = 0

/-- The parameters are admissible: the source's literals (rules R3, R4) and the ranges of rules R7 to R9, R11, R12 and
R14. -/
abbrev Params.Wf (p : Params) : Prop :=
  p.base = 0xFF200000 ∧ p.span = 0x5000 ∧
  p.OffsetWf p.offSwitches ∧ p.OffsetWf p.offButtons ∧ p.OffsetWf p.offLeds ∧
  p.offSwitches ≠ p.offButtons ∧ p.offSwitches ≠ p.offLeds ∧ p.offButtons ≠ p.offLeds ∧
  (1 ≤ p.ledCount ∧ p.ledCount ≤ 31) ∧ (1 ≤ p.switchCount ∧ p.switchCount ≤ 32) ∧
  p.counterInit ≤ p.max ∧ 0 < p.refreshPeriod ∧ p.exitFailStatus ≠ 0

/-- `SWITCH_EXIT_SENTINEL = 0` (rule R10). -/
def Config.switchExitSentinel : Word := 0

/-- `BUTTON_COUNT = 4` (rule R6). -/
abbrev Config.buttonCount : Nat := 4

/-! ## The platform of `State.reset` (log entry 1)

The spec gives the OPEN parameters no value ("the model takes it as an argument").  Each is an uninterpreted constant
brought into its admissible range, so that no proof can see which admissible value it is. -/

/-- Uninterpreted: which word of the window holds `SWITCHES` (OPEN, rule R7). -/
opaque Config.rawSwitchesIndex : Nat
/-- Uninterpreted: which of the remaining words holds `BUTTONS` (OPEN, rule R7). -/
opaque Config.rawButtonsIndex : Nat
/-- Uninterpreted: which of the remaining words holds `LEDS` (OPEN, rule R7). -/
opaque Config.rawLedsIndex : Nat
/-- Uninterpreted: `LED_COUNT` (OPEN, rule R8). -/
opaque Config.rawLedCount : Nat
/-- Uninterpreted: `SWITCH_COUNT` (OPEN, rule R9). -/
opaque Config.rawSwitchCount : Nat
/-- Uninterpreted: `COUNTER_INIT` (OPEN, rule R12). -/
opaque Config.rawCounterInit : Nat
/-- Uninterpreted: `EV_HIGH_SINGLE` (OPEN, rule R13). -/
opaque Config.evHighSingle : ButtonEvent
/-- Uninterpreted: `REFRESH_PERIOD` (OPEN, rule R11). -/
opaque Config.rawRefreshPeriod : Nat
/-- Uninterpreted: `EXIT_FAIL_STATUS` (OPEN, rule R14). -/
opaque Config.rawExitFailStatus : Int

/-- Word index of `SWITCHES`, one of the 5120 words of the window. -/
def Config.switchesIndex : Nat := Config.rawSwitchesIndex % 5120

/-- Word index of `BUTTONS`: any of the 5119 words other than `SWITCHES`'s. -/
def Config.buttonsIndex : Nat :=
  if Config.rawButtonsIndex % 5119 < Config.switchesIndex then Config.rawButtonsIndex % 5119
  else Config.rawButtonsIndex % 5119 + 1

/-- Word index of `LEDS`: any of the 5118 words other than those two. -/
def Config.ledsIndex : Nat :=
  let lo := min Config.switchesIndex Config.buttonsIndex
  let hi := Max.max Config.switchesIndex Config.buttonsIndex
  let k := Config.rawLedsIndex % 5118
  if k < lo then k else if k + 1 < hi then k + 1 else k + 2

/-- `LED_COUNT`, in `1 .. 31`. -/
def Config.ledCount : Nat := 1 + Config.rawLedCount % 31

/-- `EXIT_FAIL_STATUS`: any integer but 0. -/
def Config.exitFailStatus : Int :=
  if 0 ≤ Config.rawExitFailStatus then Config.rawExitFailStatus + 1 else Config.rawExitFailStatus

/-- The platform's parameters: the source's literals, and every OPEN parameter free in its admissible range. -/
def Config.platform : Params where
  base := 0xFF200000
  span := 0x5000
  offSwitches := BitVec.ofNat 15 (4 * Config.switchesIndex)
  offButtons := BitVec.ofNat 15 (4 * Config.buttonsIndex)
  offLeds := BitVec.ofNat 15 (4 * Config.ledsIndex)
  ledCount := Config.ledCount
  switchCount := 1 + Config.rawSwitchCount % 32
  counterInit := BitVec.ofNat 32 (Config.rawCounterInit % 2 ^ Config.ledCount)
  evHighSingle := Config.evHighSingle
  refreshPeriod := Config.rawRefreshPeriod + 1
  exitFailStatus := Config.exitFailStatus

/-! ## Free values (log entries 2 and 3)

Each is applied to a counter the state advances at every draw. -/

/-- Free value: what the button pins show at a sample (rule R52: "The draws are free"). -/
opaque Config.freeButtons : Nat → BitVec Config.buttonCount
/-- Free value: what the switch pins show at a sample (rule R52). -/
opaque Config.freeSwitches : Nat → Word
/-- Free value: what `LEDS` holds after a reset (rule R34: "unspecified (any 32-bit value)"). -/
opaque Config.freeLeds : Nat → Word

end Sys2Proof
end

