-- ==== Sys2Proof/Machine/Operands.lean ====
section
/-! DEFINITION. The operand forms of rule R70 and the bit fields of 00_scope.md section 4: population count, fields,
zero extension, and what each transform of `APPLY` computes. -/

namespace Sys2Proof.Machine

/-- `popcount(w)`: "the number of bits of `w` that are 1, over all 32 bits" (00_scope.md section 4). -/
def popcount (w : Word) : Nat := (List.range 32).countP fun i => w.getLsbD i

/-- `zext_32(v[n−1:0])`: the field from bit `n − 1` down to bit 0, extended with zeros (00_scope.md section 4). -/
def lowBits (n : Nat) (w : Word) : Word := BitVec.ofNat 32 (w.toNat % 2 ^ n)

/-- `zext_32` of the four button lines (rules R28, R62). -/
def zextButtons (b : BitVec 4) : Word := b.zeroExtend 32

/-- The row of a written-out transform that fits `x`, or the value it has everywhere else. -/
def lookupRow (rows : List (Count × Count)) (otherwise x : Count) : Count :=
  match rows with
  | [] => otherwise
  | (k, v) :: rest => if x = k then v else lookupRow rest otherwise x

/-- `f(v)` for the operand `f` of `APPLY` (rule R94): `v >> 1`, `v << 1` (both in 32 bits, 00_scope.md section 4),
the constant `swv`, or the written-out function. -/
def runTransform (f : Transform) (v : Count) : Count :=
  match f with
  | .shr => v >>> 1
  | .shl => v <<< 1
  | .load swv => swv
  | .table rows otherwise => lookupRow rows otherwise v

/-- `f(v) mod (max + 1)`, computed over the integers (rule R94, 00_scope.md section 4). -/
def wrapCount (max v : Count) : Count := BitVec.ofNat 32 (v.toNat % (max.toNat + 1))

/-- `TO_REG`'s conversion: `zext_32(value)`, which "changes no bits" (rule R98). -/
def countToReg (v : Count) : Word := v

/-- The location an access at byte offset `off` touches: `BASE + off`, a sum over the integers (rule R43). -/
def effectiveAddress (base off : Nat) : Nat := base + off

/-- The precondition of every access of `n` bytes: `offset + size_of(T) <= span` (rules R49, R80). -/
def inSpan (span off n : Nat) : Bool := off + n ≤ span

end Sys2Proof.Machine
end

