-- ==== Sys2Proof/WellFormed.lean ====
section
/-! DEFINITION. The check that an operation's operands are ones its encoding admits.  Operand types rule everything
else out: an event is one of six, an offset has 15 bits. -/

namespace Sys2Proof

/-- `EV_MULTI` stands for a `BTN` word with `popcount >= 2` and no other (rules R105, R122); every other operation is
well formed with any operands its type admits. -/
def Instr.wellFormed : Instr → Bool
  | .evMulti w => 2 ≤ Machine.popcount w
  | .evNone => true
  | .evBtn0 => true
  | .evBtn1 => true
  | .evBtn2 => true
  | .evBtn3 => true
  | .rdButtons => true
  | .rdSwitches => true
  | .wrLeds _ => true
  | .access _ _ => true
  | .hold => true
  | .inc => true
  | .dec => true
  | .shr => true
  | .shl => true
  | .load _ => true
  | .apply _ => true
  | .poll => true
  | .gate _ => true
  | .dispatch _ => true
  | .ledUpdate => true
  | .prevUpdate _ => true
  | .sleep => true
  | .halt => true
  | .decode _ => true
  | .toReg => true
  | .iterate => true

end Sys2Proof
end

