-- ==== Sys2Proof/Decode.lean ====
section
/-! DEFINITION. The input decoder (rule R105), the decoder of commands in the formats of 30_encoding.md (total,
rejecting by name), the encoder written from the same tables, and the reading of a row of spec/opcode_table.json. -/

namespace Sys2Proof

open Machine (popcount)

/-- `DECODE(w)` (rules R105, R106): by popcount over all 32 bits, then by the position of a lone bit; a lone bit at
position 4..31 gives the parameter `EV_HIGH_SINGLE`. -/
def decodeButtons (highSingle : ButtonEvent) (w : Word) : ButtonEvent :=
  if popcount w = 0 then .none
  else if 2 ≤ popcount w then .multiple
  else if w.getLsbD 0 then .button0
  else if w.getLsbD 1 then .button1
  else if w.getLsbD 2 then .button2
  else if w.getLsbD 3 then .button3
  else highSingle

/-- The dispatched action of an event whose `BTN` word is `w` (rules R69, R121). -/
def eventAction (w : Word) : ButtonEvent → Instr
  | .none => .evNone
  | .button0 => .evBtn0
  | .button1 => .evBtn1
  | .button2 => .evBtn2
  | .button3 => .evBtn3
  | .multiple => .evMulti w

/-- Format `EV` (rule R65). -/
def eventCode : ButtonEvent → Word
  | .none => 0b000
  | .button0 => 0b001
  | .button1 => 0b010
  | .button2 => 0b011
  | .button3 => 0b100
  | .multiple => 0b101

/-- The event of an `EV` code; `0b110` and `0b111` "are never produced" (rule R65). -/
def decodeEvent (code : Nat) : Except Reject ButtonEvent :=
  if code = 0b000 then .ok .none
  else if code = 0b001 then .ok .button0
  else if code = 0b010 then .ok .button1
  else if code = 0b011 then .ok .button2
  else if code = 0b100 then .ok .button3
  else if code = 0b101 then .ok .multiple
  else .error (.eventCode code)

/-- An operation without operand words. -/
def withoutOperand (fmt : Format) (code : Nat) (operands : List Word) (i : Instr) : Except Reject Instr :=
  match operands with
  | [] => .ok i
  | _ :: _ => .error (.operandCount fmt code)

/-- An operation with one operand word. -/
def withOperand (fmt : Format) (code : Nat) (operands : List Word) (read : Word → Except Reject Instr) :
    Except Reject Instr :=
  match operands with
  | [w] => read w
  | [] => .error (.operandCount fmt code)
  | _ :: _ :: _ => .error (.operandCount fmt code)

/-- An operand word that is an `EV` code. -/
def eventOperand (make : ButtonEvent → Instr) (w : Word) : Except Reject Instr :=
  (decodeEvent w.toNat).map make

/-- Format `BUS` (rule R66): `we` in bit 15, `off` in bits 14:0. -/
def busCode (we : Bool) (off : Offset) : Word :=
  BitVec.ofNat 32 (off.toNat + if we then 2 ^ 15 else 0)

/-- Field `we` of a `BUS` word. -/
def busWe (code : Word) : Bool := code.getLsbD 15

/-- Field `off` of a `BUS` word. -/
def busOff (code : Word) : Offset := code.extractLsb' 0 15

/-- A `BUS` command with its write data (reads have none): one of the three of rule R66; a command "other than the three"
is refused (rule R71, log entry 11). -/
def decodeBus (p : Params) (code : Word) (operands : List Word) : Except Reject Instr :=
  if 2 ^ 16 ≤ code.toNat then .error (.unassignedCode .bus code.toNat)
  else if busWe code then
    if busOff code = p.offLeds then withOperand .bus code.toNat operands fun wdata => .ok (.wrLeds wdata)
    else .error (.undescribedAccess true (busOff code))
  else if busOff code = p.offButtons then withoutOperand .bus code.toNat operands .rdButtons
  else if busOff code = p.offSwitches then withoutOperand .bus code.toNat operands .rdSwitches
  else .error (.undescribedAccess false (busOff code))

/-- Format `CNT` (rule R67). -/
def decodeCnt (code : Nat) (operands : List Word) : Except Reject Instr :=
  if code = 0b000 then withoutOperand .cnt code operands .hold
  else if code = 0b001 then withoutOperand .cnt code operands .inc
  else if code = 0b010 then withoutOperand .cnt code operands .dec
  else if code = 0b011 then withoutOperand .cnt code operands .shr
  else if code = 0b100 then withoutOperand .cnt code operands .shl
  else if code = 0b101 then withOperand .cnt code operands fun swv => .ok (.load swv)
  else .error (.unassignedCode .cnt code)

/-- Format `SEQ` (rule R68); `GATE`, `DISPATCH` and `PREV_UPDATE` take the `EV` code of `cur`. -/
def decodeSeq (code : Nat) (operands : List Word) : Except Reject Instr :=
  if code = 1 then withoutOperand .seq code operands .poll
  else if code = 2 then withOperand .seq code operands (eventOperand .gate)
  else if code = 3 then withOperand .seq code operands (eventOperand .dispatch)
  else if code = 4 then withoutOperand .seq code operands .ledUpdate
  else if code = 5 then withOperand .seq code operands (eventOperand .prevUpdate)
  else if code = 6 then withoutOperand .seq code operands .sleep
  else if code = 7 then withoutOperand .seq code operands .halt
  else .error (.unassignedCode .seq code)

/-- The rows of a written-out transform, two operand words each. -/
def decodeRows (operands : List Word) : Option (List (Count × Count)) :=
  match operands with
  | [] => some []
  | k :: v :: rest => (decodeRows rest).map fun rows => (k, v) :: rows
  | [_] => none

/-- A transform written out: its value elsewhere, then its rows. -/
def decodeTable (operands : List Word) : Except Reject Instr :=
  match operands with
  | [] => .error (.operandCount .gen 1)
  | otherwise :: rest =>
    match decodeRows rest with
    | some rows => .ok (.apply (.table rows otherwise))
    | none => .error (.operandCount .gen 1)

/-- `APPLY` with its operand: "one of 011 (SHR), 100 (SHL), 101 (LOAD)" (opcode_table.json), and the model's own code 0
for any other function, written out (log entry 8). -/
def decodeApply (operands : List Word) : Except Reject Instr :=
  match operands with
  | [] => .error (.operandCount .gen 1)
  | sel :: args =>
    if sel.toNat = 0b011 then withoutOperand .gen 1 args (.apply .shr)
    else if sel.toNat = 0b100 then withoutOperand .gen 1 args (.apply .shl)
    else if sel.toNat = 0b101 then withOperand .gen 1 args fun swv => .ok (.apply (.load swv))
    else if sel.toNat = 0 then decodeTable args
    else .error (.transformCode sel.toNat)

/-- `ACCESS` with its operand, the 16-bit word `wooooooooooooooo` of opcode_table.json. -/
def accessOperand (bus : Word) : Except Reject Instr :=
  if 2 ^ 16 ≤ bus.toNat then .error (.busCommand bus.toNat) else .ok (.access (busWe bus) (busOff bus))

/-- Format `gen`: the operations without a code of their own, numbered by the model (log entry 6). -/
def decodeGen (code : Nat) (operands : List Word) : Except Reject Instr :=
  if code = 0 then withOperand .gen code operands accessOperand
  else if code = 1 then decodeApply operands
  else if code = 2 then withOperand .gen code operands fun w => .ok (.decode w)
  else if code = 3 then withoutOperand .gen code operands .toReg
  else if code = 4 then withoutOperand .gen code operands .iterate
  else .error (.unassignedCode .gen code)

/-- The operation a command stands for; total, and every other command is rejected by name.  A `BTN` word is decoded
"the same way at every poll" (rule R72). -/
def decode (p : Params) (c : Command) : Except Reject Instr :=
  match c.fmt with
  | .btn =>
    withoutOperand .btn c.code.toNat c.operands (eventAction c.code (decodeButtons p.evHighSingle c.code))
  | .bus => decodeBus p c.code c.operands
  | .cnt => decodeCnt c.code.toNat c.operands
  | .seq => decodeSeq c.code.toNat c.operands
  | .gen => decodeGen c.code.toNat c.operands

/-- The operand words of a transform of `APPLY`. -/
def encodeRows (rows : List (Count × Count)) : List Word :=
  match rows with
  | [] => []
  | (k, v) :: rest => k :: v :: encodeRows rest

/-- The operand words that name a transform. -/
def encodeTransform : Transform → List Word
  | .shr => [0b011]
  | .shl => [0b100]
  | .load swv => [0b101, swv]
  | .table rows otherwise => 0 :: otherwise :: encodeRows rows

/-- The command of an operation, from the tables of rules R62 and R65 to R68. -/
def encode (p : Params) : Instr → Command
  | .evNone => ⟨.btn, 0x0, []⟩
  | .evBtn0 => ⟨.btn, 0x1, []⟩
  | .evBtn1 => ⟨.btn, 0x2, []⟩
  | .evBtn2 => ⟨.btn, 0x4, []⟩
  | .evBtn3 => ⟨.btn, 0x8, []⟩
  | .evMulti w => ⟨.btn, w, []⟩
  | .rdButtons => ⟨.bus, busCode false p.offButtons, []⟩
  | .rdSwitches => ⟨.bus, busCode false p.offSwitches, []⟩
  | .wrLeds r => ⟨.bus, busCode true p.offLeds, [r]⟩
  | .access we off => ⟨.gen, 0, [busCode we off]⟩
  | .hold => ⟨.cnt, 0b000, []⟩
  | .inc => ⟨.cnt, 0b001, []⟩
  | .dec => ⟨.cnt, 0b010, []⟩
  | .shr => ⟨.cnt, 0b011, []⟩
  | .shl => ⟨.cnt, 0b100, []⟩
  | .load swv => ⟨.cnt, 0b101, [swv]⟩
  | .apply f => ⟨.gen, 1, encodeTransform f⟩
  | .poll => ⟨.seq, 1, []⟩
  | .gate cur => ⟨.seq, 2, [eventCode cur]⟩
  | .dispatch cur => ⟨.seq, 3, [eventCode cur]⟩
  | .ledUpdate => ⟨.seq, 4, []⟩
  | .prevUpdate cur => ⟨.seq, 5, [eventCode cur]⟩
  | .sleep => ⟨.seq, 6, []⟩
  | .halt => ⟨.seq, 7, []⟩
  | .decode w => ⟨.gen, 2, [w]⟩
  | .toReg => ⟨.gen, 3, []⟩
  | .iterate => ⟨.gen, 4, []⟩

/-- How many operand words a 3-bit code takes in its format. -/
def tableOperands (fmt : Format) (code : Nat) : List Word :=
  match fmt, code with
  | .cnt, 5 => [0]
  | .seq, 2 => [0]
  | .seq, 3 => [0]
  | .seq, 5 => [0]
  | _, _ => []

/-- The command of a row of spec/opcode_table.json given as a number of `nbits` bits, its operand words zero: 32 bits
are a `BTN` word and 16 a `BUS` word.  Both 3-bit formats come as one byte (log entry 7): a byte with a bit above the
code set, and codes 6 and 7, are `SEQ`; the others are `CNT`, whose rows stand first in the table. -/
def tableCommand (nbits w : Nat) : Command :=
  if 16 < nbits then ⟨.btn, BitVec.ofNat 32 w, []⟩
  else if 8 < nbits then ⟨.bus, BitVec.ofNat 32 w, if busWe (BitVec.ofNat 32 w) then [0] else []⟩
  else
    let code := w % 8
    let fmt : Format := if 8 ≤ w ∨ 6 ≤ code then .seq else .cnt
    ⟨fmt, BitVec.ofNat 32 code, tableOperands fmt code⟩

/-- The operation the decoder reads from a row of the table (the platform's parameters fix the offsets). -/
def decodeTableWord (nbits w : Nat) : Option Instr :=
  match decode Config.platform (tableCommand nbits w) with
  | .ok i => some i
  | .error _ => none

end Sys2Proof
end

