-- ==== Sys2Proof/Machine/Flags.lean ====
section
/-! DEFINITION. The block's one flag, `term` (rule R24), and the truth value of the debounce gate (rule R115). -/

namespace Sys2Proof.Machine

/-- `term` after a `Multiple` action that read `swv`: set when the whole word is the sentinel, "otherwise left as it
is" (rule R122). -/
def termAfter (term : Bool) (swv : Word) : Bool := term || swv == Config.switchExitSentinel

/-- `GATE(prev, cur) = (prev == Multiple and cur != None) or (cur == prev)` (rule R115). -/
def gateSkips (prev cur : ButtonEvent) : Bool :=
  (prev == .multiple && cur != .none) || cur == prev

end Sys2Proof.Machine
end

