-- ==== Sys2Proof/Machine/State.lean ====
section
/-! DEFINITION. The state of the machine as plain data: the six elements of rule R20, the parameters, the host's mapping,
the pin values to come, and the model's own ports and history; the reasons a step can stop; the state after reset. -/

namespace Sys2Proof.Machine

/-- The sequencer register `phase` (rule R25): `PH_ITER`, `PH_SLEEP`, `PH_HALT`. -/
inductive Phase where
  | iter
  | sleep
  | halt
  deriving DecidableEq, Repr

/-- The host's mapping of the window (rules R153, R154, R161): not yet made, in force, or released by Finalize. -/
inductive Mapping where
  | absent
  | valid
  | released
  deriving DecidableEq, Repr

/-- One access on the internal bus (rule R66): the command and its `wdata` or `rdata`. -/
structure BusAccess where
  we : Bool
  off : Offset
  data : Word
  deriving DecidableEq, Repr

/-- What the last operation that returns a value returned (log entry 4). -/
inductive Result where
  | none
  /-- A `Register`, of `RD_BUTTONS`, `RD_SWITCHES` and `TO_REG`. -/
  | register (w : Word)
  /-- The new value, of `INC` and `DEC`. -/
  | count (v : Count)
  /-- A `ButtonEvent`, of `DECODE` and `POLL`. -/
  | event (e : ButtonEvent)
  /-- "skip", of `GATE`. -/
  | skip (b : Bool)
  /-- A location, of `ACCESS`, and whether it is for a write. -/
  | location (we : Bool) (address : Nat)
  deriving DecidableEq, Repr

/-- The state.  The fields down to `leds` are the block's own (rule R20) with their parameters; the others are the
host's, the environment's and the model's. -/
structure State where
  /-- The parameters of 00_scope.md section 3; no operation changes them. -/
  params : Params
  /-- `value`, the wrapped counter (rule R21). -/
  value : Count
  /-- `max`, "immutable after construction" (rule R22). -/
  max : Count
  /-- `prev`, "`previous_button: ButtonEvent`" (rule R23). -/
  prev : ButtonEvent
  /-- `term`, the terminate flag (rule R24). -/
  term : Bool
  /-- `phase`, the sequencer register (rule R25). -/
  phase : Phase
  /-- `LEDS`, the last word written (rule R26). -/
  leds : Word
  /-- The host's mapping (rules R153, R154, R161). -/
  mapping : Mapping
  /-- What the button pins show at the coming samples, oldest first; past its end every sample is a free value
  (rule R52, log entry 2). -/
  btnIn : List (BitVec 4)
  /-- What the switch pins show at the coming samples, as `btnIn`. -/
  swIn : List Word
  /-- How many free values have been drawn (the model's own counter, log entry 2). -/
  draws : Nat
  /-- The accesses issued so far, oldest first: the bus trace of rules R54 and R130 (the model's own history,
  log entry 5). -/
  bus : List BusAccess
  /-- The value the last value-returning operation returned (the model's own port, log entry 4). -/
  result : Result
  /-- The stand-alone operations a test bench offers to the components, oldest first; empty while the block runs alone
  (the model's own port, log entry 4). -/
  offered : List Command
  deriving DecidableEq, Repr

/-- Why the machine stops with a fault. -/
inductive Fault where
  /-- Raised by the host's Initialize when "physical memory mapping cannot be established" (rule R141): fatal, before
  the control loop exists; no operation of the block raises it.  Safe: the run ends. -/
  | mappingError
  deriving DecidableEq, Repr

/-- Why the model refuses. -/
inductive Refusal where
  /-- Raised by `exec` for an operation without a meaning; no arm does.  Safe. -/
  | notModelled (mnemonic : String)
  /-- `PreconditionViolation(offset)` (rule R142): raised by `ACCESS`, `MemRead`, `MemWrite` and `step` (for a `BUS`
  command) when `offset + 4 > SPAN`.  Safe: no value, no effect. -/
  | preconditionViolation (off : Nat)
  /-- Raised by `MemRead` and `MemWrite` for an access of other than four bytes (rule R46).  Safe. -/
  | accessWidth (bytes : Nat)
  /-- Raised by `MemRead`, `MemWrite` and `step` (for a `BUS` command) at an in-window offset that is none of the three
  registers, misaligned offsets among them (rules R47, R48).  Safe. -/
  | unmappedOffset (off : Nat)
  /-- Raised by `MemRead` and `step` (for a `BUS` read) at `OFF_LEDS` (rule R48).  Safe. -/
  | readOfLeds
  /-- Raised by `MemWrite` and `step` (for a `BUS` write) at `OFF_SWITCHES` or `OFF_BUTTONS` (rule R48).  Safe. -/
  | writeOfReadOnly (off : Nat)
  /-- Raised by `step` for an offered command that the decoder rejects, `BUS` accesses apart (rule R71).  Safe. -/
  | undecodable (reason : Reject)
  /-- Raised by the host's Initialize when it has already succeeded (rule R152: "succeed exactly once").  Safe. -/
  | initializeAgain
  /-- Raised by the host's Finalize before Initialize or before the loop returns (rules R152, R154).  Safe. -/
  | finalizeTooEarly
  /-- Raised by the host's Finalize when it has already been called (rules R152, R154).  Safe. -/
  | finalizeAgain
  deriving DecidableEq, Repr

/-- `led_out[LED_COUNT−1:0] = LEDS[LED_COUNT−1:0]`, combinationally (rule R29). -/
def State.ledOut (s : State) : Word := lowBits s.params.ledCount s.leds

/-- `halted = (phase == PH_HALT)` (rule R29). -/
def State.halted (s : State) : Bool := s.phase = .halt

/-- The state after reset (rules R34, R160) of a released block with parameters `p` (rule R161: "mapping valid, state as
in rule R160, nothing in flight"), `LEDS` holding an arbitrary word. -/
def State.resetWith (p : Params) (leds : Word) : State where
  params := p
  value := p.counterInit
  max := p.max
  prev := .none
  term := false
  phase := .iter
  leds := leds
  mapping := .valid
  btnIn := []
  swIn := []
  draws := 0
  bus := []
  result := .none
  offered := []

/-- The machine right after reset: the platform's parameters, `LEDS` a free value (its draw counted), and nothing known
of the pins. -/
def State.reset : State :=
  { State.resetWith Config.platform (Config.freeLeds 0) with draws := 1 }

end Sys2Proof.Machine
end

