-- ==== Sys2Proof/Machine/Ops.lean ====
section
/-! DEFINITION. The shared operations: the plain updates of the state, sampling the pins, the register bank's read mux
and write decode, the three counter operations, the dispatch actions and the iteration.

There is no trap entry and no return from one (rules R148, R149): "No event saves state, switches mode, masks
anything, uses a stack or vectors to a handler". -/

namespace Sys2Proof.Machine

/-! ## Plain updates -/

def State.setValue (v : Count) (s : State) : State := { s with value := v }
def State.setPrev (e : ButtonEvent) (s : State) : State := { s with prev := e }
def State.setTerm (b : Bool) (s : State) : State := { s with term := b }
def State.setPhase (ph : Phase) (s : State) : State := { s with phase := ph }
def State.setLeds (w : Word) (s : State) : State := { s with leds := w }
def State.setMapping (m : Mapping) (s : State) : State := { s with mapping := m }
def State.setBtnIn (pins : List (BitVec 4)) (s : State) : State := { s with btnIn := pins }
def State.setSwIn (pins : List Word) (s : State) : State := { s with swIn := pins }
def State.countDraw (s : State) : State := { s with draws := s.draws + 1 }
def State.logBus (a : BusAccess) (s : State) : State := { s with bus := s.bus ++ [a] }
def State.setResult (r : Result) (s : State) : State := { s with result := r }
def State.setOffered (cs : List Command) (s : State) : State := { s with offered := cs }

/-! ## Sampling the pins (rule R52) -/

/-- `sample_buttons()`: the four button lines at this sample. -/
def sampleButtons (s : State) : BitVec 4 :=
  match s.btnIn with
  | b :: _ => b
  | [] => Config.freeButtons s.draws

/-- The button sample is taken. -/
def passButtons (s : State) : State :=
  match s.btnIn with
  | _ :: later => s.setBtnIn later
  | [] => s.countDraw

/-- `sample_switches()`: the switch lines at this sample; there are `SWITCH_COUNT` of them. -/
def sampleSwitches (s : State) : Word :=
  lowBits s.params.switchCount
    (match s.swIn with
    | w :: _ => w
    | [] => Config.freeSwitches s.draws)

/-- The switch sample is taken. -/
def passSwitches (s : State) : State :=
  match s.swIn with
  | _ :: later => s.setSwIn later
  | [] => s.countDraw

/-! ## The register bank (rules R44, R45, R81) -/

/-- The word a read of `BUTTONS` returns now (rule R28). -/
def buttonsWord (s : State) : Word := zextButtons (sampleButtons s)

/-- The word a read of `SWITCHES` returns now (rule R27). -/
def switchesWord (s : State) : Word := sampleSwitches s

/-- The read of `BUTTONS` is issued: one sample, one bus access; the block's own state is unchanged (rule R83). -/
def issueReadButtons (s : State) : State :=
  (passButtons s).logBus ⟨false, s.params.offButtons, buttonsWord s⟩

/-- The read of `SWITCHES` is issued (rule R82). -/
def issueReadSwitches (s : State) : State :=
  (passSwitches s).logBus ⟨false, s.params.offSwitches, switchesWord s⟩

/-- `write_leds(r)`: one bus access, and `LEDS <- r` (rule R84). -/
def writeLeds (r : Word) (s : State) : State :=
  (s.setLeds r).logBus ⟨true, s.params.offLeds, r⟩

/-- Why the bank refuses a four-byte access that is none of the three it describes: outside the span (rule R49), in a
register's wrong direction, or at no register, misaligned offsets among them (rules R47, R48). -/
def undescribedAccess (p : Params) (we : Bool) (off : Nat) : Refusal :=
  if !inSpan p.span off 4 then .preconditionViolation off
  else if we then
    if off = p.offSwitches.toNat ∨ off = p.offButtons.toNat then .writeOfReadOnly off else .unmappedOffset off
  else if off = p.offLeds.toNat then .readOfLeds
  else .unmappedOffset off

/-- `MemRead(BASE + off, n)`: the word read and the state after it, or why it is refused (rules R44, R46 to R49). -/
def memRead (off n : Nat) (s : State) : Except Refusal (Word × State) :=
  if n ≠ 4 then .error (.accessWidth n)
  else if !inSpan s.params.span off 4 then .error (undescribedAccess s.params false off)
  else if off = s.params.offSwitches.toNat then .ok (switchesWord s, issueReadSwitches s)
  else if off = s.params.offButtons.toNat then .ok (buttonsWord s, issueReadButtons s)
  else .error (undescribedAccess s.params false off)

/-- `MemWrite(BASE + off, n, v)`: the state after it, or why it is refused (rules R45 to R49). -/
def memWrite (off n : Nat) (v : Word) (s : State) : Except Refusal State :=
  if n ≠ 4 then .error (.accessWidth n)
  else if !inSpan s.params.span off 4 then .error (undescribedAccess s.params true off)
  else if off = s.params.offLeds.toNat then .ok (writeLeds v s)
  else .error (undescribedAccess s.params true off)

/-! ## The wrapped counter (rules R92 to R94) -/

/-- The value `increment()` gives: "`value == max ? 0 : value + 1`" (rule R92). -/
def incremented (max v : Count) : Count := if v = max then 0 else v + 1

/-- The value `decrement()` gives: "`value == 0 ? max : value - 1`" (rule R93). -/
def decremented (max v : Count) : Count := if v = 0 then max else v - 1

/-- `increment()`. -/
def incCounter (s : State) : State := s.setValue (incremented s.max s.value)

/-- `decrement()`. -/
def decCounter (s : State) : State := s.setValue (decremented s.max s.value)

/-- `apply(f)`: "`value := f(value) mod (max + 1)`" (rule R94), for any function `f`. -/
def applyCounter (f : Count → Count) (s : State) : State := s.setValue (wrapCount s.max (f s.value))

/-- `LOAD` of the word `swv` (rule R97). -/
def loadCounter (swv : Word) (s : State) : State := applyCounter (runTransform (.load swv)) s

/-! ## The control loop (rule R113) -/

/-- The `Multiple` action: read the switches, load them, then the sentinel test on the same unreduced word
(rule R122). -/
def multipleAction (s : State) : State :=
  let swv := switchesWord s
  let loaded := loadCounter swv (issueReadSwitches s)
  loaded.setTerm (termAfter loaded.term swv)

/-- The action of an event (rules R116 to R122). -/
def runEvent (cur : ButtonEvent) (s : State) : State :=
  match cur with
  | .none => s
  | .button0 => incCounter s
  | .button1 => decCounter s
  | .button2 => applyCounter (runTransform .shr) s
  | .button3 => applyCounter (runTransform .shl) s
  | .multiple => multipleAction s

/-- The event a poll sees now: `DECODE(RD_BUTTONS())` (rule R114). -/
def polledEvent (s : State) : ButtonEvent := decodeButtons s.params.evHighSingle (buttonsWord s)

/-- Step 4: `WR_LEDS(TO_REG(value))` (rule R123). -/
def updateLeds (s : State) : State := writeLeds (countToReg s.value) s

/-- Steps 4 and 5 and the end of a non-skipped iteration (rules R123, R124, R126). -/
def finishIteration (cur : ButtonEvent) (s : State) : State :=
  let done := (updateLeds s).setPrev cur
  done.setPhase (if done.term then .halt else .sleep)

/-- One iteration from `PH_ITER` (rules R113, R130): poll, gate, and on a skip straight to `PH_SLEEP` (rule R125). -/
def iterateOnce (s : State) : State :=
  let cur := polledEvent s
  let polled := issueReadButtons s
  if gateSkips s.prev cur then polled.setPhase .sleep
  else finishIteration cur (runEvent cur polled)

/-- The end of the sleep: `PH_SLEEP -> PH_ITER`; the other phases keep (rules R25, R127). -/
def wake (ph : Phase) : Phase :=
  match ph with
  | .iter => .iter
  | .sleep => .iter
  | .halt => .halt

end Sys2Proof.Machine
end

