-- ==== Sys2Proof/Machine/ControlFsm.lean ====
section
/-! DEFINITION. The meanings of the decoder and of the control FSM's operations (42_input_decoder.md,
43_control_fsm.md). -/

namespace Sys2Proof.Machine

/-- `DECODE` (rules R105, R106). -/
def execDecode (w : Word) (s : State) : Host.Outcome State Fault Refusal :=
  .next (s.setResult (.event (decodeButtons s.params.evHighSingle w)))

/-- `POLL`, step 1 (rule R114). -/
def execPoll (s : State) : Host.Outcome State Fault Refusal :=
  .next ((issueReadButtons s).setResult (.event (polledEvent s)))

/-- `GATE`, step 2 (rule R115). -/
def execGate (cur : ButtonEvent) (s : State) : Host.Outcome State Fault Refusal :=
  .next (s.setResult (.skip (gateSkips s.prev cur)))

/-- `DISPATCH`, step 3 (rule R121). -/
def execDispatch (cur : ButtonEvent) (s : State) : Host.Outcome State Fault Refusal :=
  .next (runEvent cur s)

/-- `LED_UPDATE`, step 4 (rule R123). -/
def execLedUpdate (s : State) : Host.Outcome State Fault Refusal := .next (updateLeds s)

/-- `PREV_UPDATE`, step 5 (rule R124). -/
def execPrevUpdate (cur : ButtonEvent) (s : State) : Host.Outcome State Fault Refusal :=
  .next (s.setPrev cur)

/-- `SLEEP`, step 6: no access, no change, then `PH_SLEEP -> PH_ITER` (rule R127). -/
def execSleep (s : State) : Host.Outcome State Fault Refusal := .next (s.setPhase (wake s.phase))

/-- `HALT`: "issues no access and changes no state" (rule R128). -/
def execHalt (s : State) : Host.Outcome State Fault Refusal := .next s

/-- `ITERATE`: steps 1 to 5 in `PH_ITER` (rule R130); nothing in the other phases, where "No access is issued"
(rule R54, log entry 9). -/
def execIterate (s : State) : Host.Outcome State Fault Refusal :=
  match s.phase with
  | .iter => .next (iterateOnce s)
  | .sleep => .next s
  | .halt => .next s

end Sys2Proof.Machine
end

