-- ==== Sys2Proof/Machine/EventActions.lean ====
section
/-! DEFINITION. The meanings of the `BTN` operations, the six dispatch actions (rules R116 to R120, R122).  An action is
step 3 of an iteration alone; the LED write and the update of `prev` are steps 4 and 5 (`ITERATE`, rule R130). -/

namespace Sys2Proof.Machine

/-- `EV_NONE`: "no action" (rule R116). -/
def execEvNone (s : State) : Host.Outcome State Fault Refusal := .next (runEvent .none s)

/-- `EV_BTN0`: "`counter.increment()`" (rule R117). -/
def execEvBtn0 (s : State) : Host.Outcome State Fault Refusal := .next (runEvent .button0 s)

/-- `EV_BTN1`: "`counter.decrement()`" (rule R118). -/
def execEvBtn1 (s : State) : Host.Outcome State Fault Refusal := .next (runEvent .button1 s)

/-- `EV_BTN2`: "`counter.apply(v -> v >> 1)`" (rule R119). -/
def execEvBtn2 (s : State) : Host.Outcome State Fault Refusal := .next (runEvent .button2 s)

/-- `EV_BTN3`: "`counter.apply(v -> v << 1)`" (rule R120). -/
def execEvBtn3 (s : State) : Host.Outcome State Fault Refusal := .next (runEvent .button3 s)

/-- `EV_MULTI` (rule R122); "Which buttons make the chord is irrelevant", so the word is not looked at. -/
def execEvMulti (_w : Word) (s : State) : Host.Outcome State Fault Refusal :=
  .next (runEvent .multiple s)

end Sys2Proof.Machine
end

