-- ==== Sys2Proof/Machine/RegisterAccess.lean ====
section
/-! DEFINITION. The meanings of the register access operations (40_register_access.md). -/

namespace Sys2Proof.Machine

/-- `RD_BUTTONS` (rule R83). -/
def execRdButtons (s : State) : Host.Outcome State Fault Refusal :=
  .next ((issueReadButtons s).setResult (.register (buttonsWord s)))

/-- `RD_SWITCHES` (rule R82). -/
def execRdSwitches (s : State) : Host.Outcome State Fault Refusal :=
  .next ((issueReadSwitches s).setResult (.register (switchesWord s)))

/-- `WR_LEDS` (rule R84). -/
def execWrLeds (r : Word) (s : State) : Host.Outcome State Fault Refusal := .next (writeLeds r s)

/-- `ACCESS` (rule R80): the location `BASE + offset`, or `PreconditionViolation(offset)`; it reads and writes nothing
itself. -/
def execAccess (we : Bool) (off : Offset) (s : State) : Host.Outcome State Fault Refusal :=
  if inSpan s.params.span off.toNat 4 then
    .next (s.setResult (.location we (effectiveAddress s.params.base off.toNat)))
  else .refused (.preconditionViolation off.toNat)

end Sys2Proof.Machine
end

