-- ==== Sys2Proof/Machine/WrappedCounter.lean ====
section
/-! DEFINITION. The meanings of the wrapped counter's operations (41_wrapped_counter.md). -/

namespace Sys2Proof.Machine

/-- `HOLD`: "no change" (rule R67). -/
def execHold (s : State) : Host.Outcome State Fault Refusal := .next s

/-- `INC`: "Returns new value" (rule R92). -/
def execInc (s : State) : Host.Outcome State Fault Refusal :=
  .next ((incCounter s).setResult (.count (incCounter s).value))

/-- `DEC` (rule R93: "Result: the new `value`"). -/
def execDec (s : State) : Host.Outcome State Fault Refusal :=
  .next ((decCounter s).setResult (.count (decCounter s).value))

/-- `SHR` (rule R95). -/
def execShr (s : State) : Host.Outcome State Fault Refusal :=
  .next (applyCounter (runTransform .shr) s)

/-- `SHL` (rule R96). -/
def execShl (s : State) : Host.Outcome State Fault Refusal :=
  .next (applyCounter (runTransform .shl) s)

/-- `LOAD` (rule R97). -/
def execLoad (swv : Word) (s : State) : Host.Outcome State Fault Refusal := .next (loadCounter swv s)

/-- `APPLY` (rule R94); "the spec returns nothing". -/
def execApply (f : Transform) (s : State) : Host.Outcome State Fault Refusal :=
  .next (applyCounter (runTransform f) s)

/-- `TO_REG` (rule R98). -/
def execToReg (s : State) : Host.Outcome State Fault Refusal :=
  .next (s.setResult (.register (countToReg s.value)))

end Sys2Proof.Machine
end

