-- ==== Sys2Proof/Machine/Dispatch.lean ====
section
/-! DEFINITION. `exec`: one arm per operation, each one call of its meaning. -/

namespace Sys2Proof.Machine

def exec (i : Instr) (s : State) : Host.Outcome State Fault Refusal :=
  match i with
  -- format BTN
  | .evNone => Sys2Proof.Machine.execEvNone s
  | .evBtn0 => Sys2Proof.Machine.execEvBtn0 s
  | .evBtn1 => Sys2Proof.Machine.execEvBtn1 s
  | .evBtn2 => Sys2Proof.Machine.execEvBtn2 s
  | .evBtn3 => Sys2Proof.Machine.execEvBtn3 s
  | .evMulti w => Sys2Proof.Machine.execEvMulti w s
  -- format BUS
  | .rdButtons => Sys2Proof.Machine.execRdButtons s
  | .rdSwitches => Sys2Proof.Machine.execRdSwitches s
  | .wrLeds r => Sys2Proof.Machine.execWrLeds r s
  | .access we off => Sys2Proof.Machine.execAccess we off s
  -- format CNT
  | .hold => Sys2Proof.Machine.execHold s
  | .inc => Sys2Proof.Machine.execInc s
  | .dec => Sys2Proof.Machine.execDec s
  | .shr => Sys2Proof.Machine.execShr s
  | .shl => Sys2Proof.Machine.execShl s
  | .load swv => Sys2Proof.Machine.execLoad swv s
  | .apply f => Sys2Proof.Machine.execApply f s
  -- format SEQ
  | .poll => Sys2Proof.Machine.execPoll s
  | .gate cur => Sys2Proof.Machine.execGate cur s
  | .dispatch cur => Sys2Proof.Machine.execDispatch cur s
  | .ledUpdate => Sys2Proof.Machine.execLedUpdate s
  | .prevUpdate cur => Sys2Proof.Machine.execPrevUpdate cur s
  | .sleep => Sys2Proof.Machine.execSleep s
  | .halt => Sys2Proof.Machine.execHalt s
  | .decode w => Sys2Proof.Machine.execDecode w s
  | .toReg => Sys2Proof.Machine.execToReg s
  | .iterate => Sys2Proof.Machine.execIterate s

end Sys2Proof.Machine
end

