-- ==== Sys2Proof/Machine/Fetch.lean ====
section
/-! DEFINITION. Which operation comes next, and how a row of the opcode table is placed so that it comes next.

The hardware fetches no instructions (rule R57): the sequencer register selects the operation, and the `BTN` word that
`ITERATE` polls selects the action.  A command a test bench offers comes before the sequencer's own (log entry 4). -/

namespace Sys2Proof.Machine

/-- The operation the sequencer is about to perform (rules R25, R151). -/
def sequencerOp (ph : Phase) : Instr :=
  match ph with
  | .iter => .iterate
  | .sleep => .sleep
  | .halt => .halt

/-- The next operation and the state it runs in, or why there is none. -/
def nextOperation (s : State) : Except Reject (Instr × State) :=
  match s.offered with
  | [] => .ok (sequencerOp s.phase, s)
  | c :: later => (decode s.params c).map fun i => (i, s.setOffered later)

/-- What a step answers when the decoder rejects the command: an undescribed `BUS` access is refused as the register bank
refuses it (rules R48, R49, R71). -/
def commandRefusal (p : Params) (reason : Reject) : Refusal :=
  match reason with
  | .undescribedAccess we off => undescribedAccess p we off.toNat
  | .unassignedCode fmt code => .undecodable (.unassignedCode fmt code)
  | .operandCount fmt code => .undecodable (.operandCount fmt code)
  | .eventCode code => .undecodable (.eventCode code)
  | .busCommand code => .undecodable (.busCommand code)
  | .transformCode code => .undecodable (.transformCode code)

/-- "The block may leave reset only after the host's Initialize has succeeded", and it runs with the mapping valid
(rule R161).  After Finalize, where the spec leaves everything unsaid (93_implementation_defined.md U16), it is held too,
a reset or not: no operation and no offered access runs (DESIGN CHOICE, log entry 16). -/
def heldInReset (s : State) : Bool := s.mapping ≠ .valid

/-- A value of `prev` with which the gate lets `cur` through: the present one if it does (rule R131). -/
def prevLetting (prev cur : ButtonEvent) : ButtonEvent :=
  if gateSkips prev cur then (if cur = .none then .button0 else .none) else prev

/-- The phase in which the sequencer itself performs a command's operation. -/
def commandPhase (c : Command) (ph : Phase) : Phase :=
  if c.fmt = .seq ∧ c.code = 6 then .sleep
  else if c.fmt = .seq ∧ c.code = 7 then .halt
  else ph

/-- A `BTN` word put on the pins of a block about to poll. -/
def placeOnPins (w : Nat) (s : State) : State :=
  let word := BitVec.ofNat 32 w
  (((s.setBtnIn (BitVec.ofNat 4 w :: s.btnIn)).setPhase .iter).setPrev
    (prevLetting s.prev (decodeButtons s.params.evHighSingle word))).setOffered []

/-- Any other command: offered to the components, in the phase that performs it. -/
def placeAsOffer (c : Command) (s : State) : State :=
  (s.setPhase (commandPhase c s.phase)).setOffered [c]

/-- A row of the table placed: a `BTN` word of the four lines goes on the pins, anything else is offered. -/
def placeCommand (c : Command) (s : State) : State :=
  let ready := if heldInReset s then s.setMapping .valid else s
  if c.fmt = .btn ∧ c.code.toNat < 16 then placeOnPins c.code.toNat ready else placeAsOffer c ready

end Sys2Proof.Machine
end

