-- ==== Sys2Proof/Machine/Step.lean ====
section
/-! DEFINITION. One step of the machine (rule R151): nothing while the block is held (rule R161), else the next operation.
`withFetchWord` places a row of the opcode table so that the next step runs it (log entry 10). -/

namespace Sys2Proof.Machine

/-- One step. -/
def step (s : State) : Host.Outcome State Fault Refusal :=
  if heldInReset s then .next s
  else
    match nextOperation s with
    | .ok (i, ready) => exec i ready
    | .error reason => .refused (commandRefusal s.params reason)

/-- `s` with the row of `nbits` bits `w` placed where the next step takes its operation from. -/
def State.withFetchWord (s : State) (nbits w : Nat) : State := placeCommand (tableCommand nbits w) s

end Sys2Proof.Machine
end

