-- ==== Sys2Proof/Machine/HostSide.lean ====
section
/-! DEFINITION. What the host does to the block (rules R151 to R154, R160): Initialize, reset, Finalize, and the process
status.  These are moves of the host, not operations of the table; `step` makes none of them. -/

namespace Sys2Proof.Machine

/-- A block whose window the host has not mapped yet: held in reset (rules R161, R162). -/
def unmappedBlock (p : Params) (leds : Word) : State := (State.resetWith p leds).setMapping .absent

/-- Initialize (rule R153): makes the mapping, or raises `MappingError` (rule R141); it must "succeed exactly once"
(rule R152), so that a second one is refused, also after Finalize (the refusal is the model's form, log entry 16). -/
def hostInitialize (succeeds : Bool) (s : State) : Host.Outcome State Fault Refusal :=
  match s.mapping with
  | .absent => if succeeds then .next (s.setMapping .valid) else .fault .mappingError
  | .valid => .refused .initializeAgain
  | .released => .refused .initializeAgain

/-- Reset (rules R34, R160), from any phase: every element takes its reset value, `LEDS` a free one, nothing is in
flight; the mapping, the pins and the history are not the block's to reset.  A reset after Finalize, which the spec leaves
unsaid (93_implementation_defined.md U16), so keeps the mapping released, and the block stays held (DESIGN CHOICE, log
entry 16). -/
def hostReset (s : State) : State :=
  { State.resetWith s.params (Config.freeLeds s.draws) with
    mapping := s.mapping
    btnIn := s.btnIn
    swIn := s.swIn
    draws := s.draws + 1
    bus := s.bus }

/-- Finalize (rule R154): releases the mapping, "exactly once, after the Control Loop returns"; it touches no register
of the block.  The two orders rule R152 forbids are refused (the model's form, log entry 16). -/
def hostFinalize (s : State) : Host.Outcome State Fault Refusal :=
  match s.mapping with
  | .absent => .refused .finalizeTooEarly
  | .released => .refused .finalizeAgain
  | .valid => if s.halted then .next (s.setMapping .released) else .refused .finalizeTooEarly

/-- The process status after a normal exit: 0 once the loop has returned (rules R128, R143). -/
def hostExitStatus (s : State) : Option Int := if s.halted then some 0 else none

/-- The process status after `MappingError`: `EXIT_FAIL_STATUS` (rules R14, R141). -/
def hostFailStatus (p : Params) (f : Fault) : Int :=
  match f with
  | .mappingError => p.exitFailStatus

end Sys2Proof.Machine
end

