-- ==== Sys2Proof/Safety.lean ====
section
/-! DEFINITION. The terms claims about runs are stated in: the block running alone, and the invariant of reachable
states (rules R35, R133). -/

namespace Sys2Proof

open Machine

/-- The block runs by itself: its mapping is valid, and no test bench offers it an operation (rules R59, R161). -/
abbrev BlockAlone (s : State) : Prop := s.mapping = .valid ∧ s.offered = []

/-- The invariant of reachable states: the parameters are admissible and `max` is `MAX`; rule R133's (a), (b) and (c);
its (d) in the form "once an iteration has not been skipped" takes from `prev`; nothing is offered. -/
structure Inv (s : State) : Prop where
  /-- Rules R7 to R9, R12. -/
  paramsWf : s.params.Wf
  /-- Rule R22. -/
  maxIsMax : s.max = s.params.max
  /-- Rule R133 (a). -/
  inRange : s.value ≤ s.max
  /-- Rule R133 (b). -/
  runningTerm : s.phase ≠ .halt → s.term = false
  /-- Rule R133 (c). -/
  haltedState : s.phase = .halt → s.term = true ∧ s.value = 0 ∧ s.prev = .multiple ∧ s.leds = 0
  /-- Rule R133 (d). -/
  ledsShown : s.prev ≠ .none → s.leds = s.value
  /-- Rule R59. -/
  alone : s.offered = []

/-- One operation performed `k` times over, stopping at the first fault or refusal. -/
def execMany (i : Instr) (k : Nat) (s : State) : Host.Outcome State Fault Refusal :=
  match k with
  | 0 => .next s
  | k + 1 =>
    match exec i s with
    | .next t => execMany i k t
    | .fault r => .fault r
    | .refused r => .refused r

/-- `k` steps of the machine, stopping at the first fault or refusal. -/
def runSteps (k : Nat) (s : State) : Host.Outcome State Fault Refusal :=
  match k with
  | 0 => .next s
  | k + 1 =>
    match step s with
    | .next t => runSteps k t
    | .fault r => .fault r
    | .refused r => .refused r

/-- The button word the environment's pins `b` give when read: `zext_32(btn_in[3:0])` (rule R28). -/
abbrev pinsEvent (p : Params) (b : BitVec 4) : ButtonEvent := decodeButtons p.evHighSingle (b.zeroExtend 32)

/-- The bus access of reading the button pins `b`. -/
abbrev buttonsRead (p : Params) (b : BitVec 4) : BusAccess := ⟨false, p.offButtons, b.zeroExtend 32⟩

end Sys2Proof
end

