-- ==== Sys2Proof/Certificates/Slice0/Obligations.lean ====
section
/-! DEFINITION. The statements about the model.  A result is stated as the whole next state, so each such statement also
says what the operation leaves unchanged and that it completes.  `result` and `bus` are the model's own ports (log
entries 4 and 5): a clause about either is the model's choice of where the value the rule gives is shown. -/

open Sys2Proof Sys2Proof.Machine

/-! ## Register bank -/

/-- Rule R52 (its sampling is decision D20; the lists and the free values are log entry 2): a button or switch sample is
the next listed pin value, or a free value past the end of the list, and taking it changes nothing else. -/
def Obligations.PinSamplesAreDraws : Prop :=
  ∀ s : State,
    (∀ b later, s.btnIn = b :: later →
      sampleButtons s = b ∧ passButtons s = { s with btnIn := later }) ∧
    (s.btnIn = [] →
      sampleButtons s = Config.freeButtons s.draws ∧ passButtons s = { s with draws := s.draws + 1 }) ∧
    (∀ w later, s.swIn = w :: later →
      (sampleSwitches s).toNat = w.toNat % 2 ^ s.params.switchCount ∧
      passSwitches s = { s with swIn := later }) ∧
    (s.swIn = [] →
      (sampleSwitches s).toNat = (Config.freeSwitches s.draws).toNat % 2 ^ s.params.switchCount ∧
      passSwitches s = { s with draws := s.draws + 1 })

/-- Rules R28 and R83 (that bits 31:4 read 0 is decision D7): `RD_BUTTONS` returns the four lines of this sample, below
16, and leaves every element of the block alone. -/
def Obligations.RdButtonsReturnsThePins : Prop :=
  ∀ s : State,
    exec .rdButtons s = .next { passButtons s with
      bus := s.bus ++ [⟨false, s.params.offButtons, (sampleButtons s).zeroExtend 32⟩]
      result := .register ((sampleButtons s).zeroExtend 32) } ∧
    ((sampleButtons s).zeroExtend 32 : Word).toNat = (sampleButtons s).toNat ∧
    ((sampleButtons s).zeroExtend 32 : Word).toNat < 16

/-- Rules R27 and R82 (that the high bits read 0 is decision D6): `RD_SWITCHES` returns the `SWITCH_COUNT` lines of this
sample and leaves every element of the block alone. -/
def Obligations.RdSwitchesReturnsThePins : Prop :=
  ∀ s : State,
    exec .rdSwitches s = .next { passSwitches s with
      bus := s.bus ++ [⟨false, s.params.offSwitches, sampleSwitches s⟩]
      result := .register (sampleSwitches s) } ∧
    (sampleSwitches s).toNat < 2 ^ s.params.switchCount

/-- Rule R84: `WR_LEDS(r)` is `LEDS <- r`, one access, nothing else; `led_out` shows bits `[LED_COUNT−1:0]` of `r`. -/
def Obligations.WrLedsDrivesTheLeds : Prop :=
  ∀ (s : State) (r : Word),
    exec (.wrLeds r) s = .next { s with leds := r, bus := s.bus ++ [⟨true, s.params.offLeds, r⟩] } ∧
    ∀ i, (State.ledOut { s with leds := r }).getLsbD i = (decide (i < s.params.ledCount) && r.getLsbD i)

/-- Rule R51: reads change no state of the block, two reads with unchanged pins return the same value, writing the same
word twice leaves the state (but for the bus history) that writing it once leaves, and no access fails. -/
def Obligations.AccessesAreIdempotent : Prop :=
  (∀ (s : State) (i : Instr), i = .rdButtons ∨ i = .rdSwitches →
    ∃ t, exec i s = .next t ∧ t.value = s.value ∧ t.max = s.max ∧ t.prev = s.prev ∧ t.term = s.term ∧
      t.phase = s.phase ∧ t.leds = s.leds ∧ t.params = s.params) ∧
  (∀ (s t : State) (b : BitVec 4) (later : List (BitVec 4)), s.btnIn = b :: b :: later →
    exec .rdButtons s = .next t → ∃ u, exec .rdButtons t = .next u ∧ u.result = t.result) ∧
  (∀ (s t : State) (w : Word) (later : List Word), s.swIn = w :: w :: later →
    exec .rdSwitches s = .next t → ∃ u, exec .rdSwitches t = .next u ∧ u.result = t.result) ∧
  (∀ (s : State) (r : Word), ∃ t u, exec (.wrLeds r) s = .next t ∧ exec (.wrLeds r) t = .next u ∧
    u = { t with bus := t.bus ++ [⟨true, s.params.offLeds, r⟩] } ∧ t.leds = r)

/-- Rule R80: `ACCESS(offset)` with `offset + 4 <= SPAN` yields the location `BASE + offset` (below `2^32`) and touches
nothing; `0x4FFC` is the last such offset; any other is refused as a precondition violation; the block's own three
offsets never are. -/
def Obligations.AccessYieldsTheLocation : Prop :=
  ∀ (s : State) (we : Bool) (off : Offset), s.params.Wf →
    (off.toNat ≤ 0x4FFC →
      exec (.access we off) s = .next { s with result := .location we (0xFF200000 + off.toNat) } ∧
      0xFF200000 + off.toNat < 2 ^ 32) ∧
    (0x4FFD ≤ off.toNat → exec (.access we off) s = .refused (.preconditionViolation off.toNat)) ∧
    (off = s.params.offSwitches ∨ off = s.params.offButtons ∨ off = s.params.offLeds → off.toNat ≤ 0x4FFC)

/-- Rule R44: the read mux.  At `OFF_SWITCHES` and `OFF_BUTTONS` a word read returns the pins of its sample and changes
no state of the block; at every other offset it is refused. -/
def Obligations.MemReadSelectsByOffset : Prop :=
  ∀ (s : State) (off : Nat), s.params.Wf →
    (off = s.params.offSwitches.toNat →
      ∃ t, memRead off 4 s = .ok (sampleSwitches s, t) ∧
        t = { passSwitches s with
          bus := s.bus ++ [⟨false, s.params.offSwitches, sampleSwitches s⟩] }) ∧
    (off = s.params.offButtons.toNat →
      ∃ t, memRead off 4 s = .ok ((sampleButtons s).zeroExtend 32, t) ∧
        t = { passButtons s with
          bus := s.bus ++ [⟨false, s.params.offButtons, (sampleButtons s).zeroExtend 32⟩] }) ∧
    (off ≠ s.params.offSwitches.toNat → off ≠ s.params.offButtons.toNat →
      ∃ r, memRead off 4 s = .error r)

/-- Rule R45: the write decode.  At `OFF_LEDS` a word write is `LEDS <- v`; at every other offset it is refused. -/
def Obligations.MemWriteSelectsByOffset : Prop :=
  ∀ (s : State) (off : Nat) (v : Word), s.params.Wf →
    (off = s.params.offLeds.toNat →
      memWrite off 4 v s =
        .ok { s with leds := v, bus := s.bus ++ [⟨true, s.params.offLeds, v⟩] }) ∧
    (off ≠ s.params.offLeds.toNat → ∃ r, memWrite off 4 v s = .error r)

/-- Rules R46 to R49 (decisions D2, D13, D14 and D23; the names are the model's): which refusal answers an access of
another width, outside the span, at an unmapped or misaligned offset, and in a register's wrong direction. -/
def Obligations.UndescribedAccessesAreRefused : Prop :=
  ∀ (s : State) (off n : Nat) (v : Word), s.params.Wf →
    (n ≠ 4 → memRead off n s = .error (.accessWidth n) ∧ memWrite off n v s = .error (.accessWidth n)) ∧
    (0x5000 < off + 4 → memRead off 4 s = .error (.preconditionViolation off) ∧
      memWrite off 4 v s = .error (.preconditionViolation off)) ∧
    (off + 4 ≤ 0x5000 → off ≠ s.params.offSwitches.toNat → off ≠ s.params.offButtons.toNat →
      off ≠ s.params.offLeds.toNat →
      memRead off 4 s = .error (.unmappedOffset off) ∧ memWrite off 4 v s = .error (.unmappedOffset off)) ∧
    (off % 4 ≠ 0 → off + 4 ≤ 0x5000 → memRead off 4 s = .error (.unmappedOffset off)) ∧
    memRead s.params.offLeds.toNat 4 s = .error .readOfLeds ∧
    memWrite s.params.offSwitches.toNat 4 v s = .error (.writeOfReadOnly s.params.offSwitches.toNat) ∧
    memWrite s.params.offButtons.toNat 4 v s = .error (.writeOfReadOnly s.params.offButtons.toNat)

/-- Rules R81 to R84: the three named accessors are `MemRead` and `MemWrite` of four bytes at their registers'
offsets. -/
def Obligations.NamedAccessorsUseTheWindow : Prop :=
  ∀ (s : State) (r : Word), s.params.Wf →
    (∃ w t, memRead s.params.offSwitches.toNat 4 s = .ok (w, t) ∧
      exec .rdSwitches s = .next { t with result := .register w }) ∧
    (∃ w t, memRead s.params.offButtons.toNat 4 s = .ok (w, t) ∧
      exec .rdButtons s = .next { t with result := .register w }) ∧
    (∃ t, memWrite s.params.offLeds.toNat 4 r s = .ok t ∧ exec (.wrLeds r) s = .next t)

/-! ## Wrapped counter -/

/-- Rule R92: `INC`, for any `max`; with `MAX = 0` the value stays 0; the new value is returned.  The clause
`(value + 1) mod (max + 1)` is the spec's own inference there, marked "[derived: from rule R35 of 10_state.md]". -/
def Obligations.IncWrapsAtMax : Prop :=
  ∀ s : State, ∃ v : Count, v = (if s.value = s.max then 0 else s.value + 1) ∧
    exec .inc s = .next { s with value := v, result := .count v } ∧
    (s.value ≤ s.max → v.toNat = (s.value.toNat + 1) % (s.max.toNat + 1)) ∧
    (s.max = 0 → s.value = 0 → v = 0)

/-- Rule R93: `DEC`, for any `max`; below 0 it wraps to `max`, also where `max + 1` is no power of two; the new value is
returned. -/
def Obligations.DecWrapsAtZero : Prop :=
  ∀ s : State, ∃ v : Count, v = (if s.value = 0 then s.max else s.value - 1) ∧
    exec .dec s = .next { s with value := v, result := .count v } ∧
    (s.value ≤ s.max → (v.toNat : Int) = ((s.value.toNat : Int) - 1) % ((s.max.toNat : Int) + 1))

/-- Rule R94: `APPLY` takes any total function of `Count` (each has an operand that stands for it), evaluates it once on
the old value and reduces by `mod (max + 1)` over the integers. -/
def Obligations.ApplyReducesAnyFunction : Prop :=
  (∀ (s : State) (f : Transform), exec (.apply f) s = .next { s with
    value := BitVec.ofNat 32 ((runTransform f s.value).toNat % (s.max.toNat + 1)) }) ∧
  ∀ f : Count → Count, ∃ tr : Transform, ∀ s : State, ∃ v : Count,
    v.toNat = (f s.value).toNat % (s.max.toNat + 1) ∧
    exec (.apply tr) s = .next { s with value := v }

/-- Rule R95: `SHR` halves, and for a value in range the reduction changes nothing. -/
def Obligations.ShrHalves : Prop :=
  ∀ s : State, ∃ v : Count, v.toNat = (s.value.toNat / 2) % (s.max.toNat + 1) ∧
    exec .shr s = .next { s with value := v } ∧
    (s.value ≤ s.max → v.toNat = s.value.toNat / 2)

/-- Rule R96: `SHL` doubles and reduces; with `MAX = 2^LED_COUNT − 1` the old top bit is dropped and bit 0 becomes 0.
Rule R90's bound keeps the product inside 32 bits. -/
def Obligations.ShlDoublesAndWraps : Prop :=
  ∀ s : State, s.max.toNat < 2 ^ 31 → s.value ≤ s.max → ∃ v : Count,
    v.toNat = (2 * s.value.toNat) % (s.max.toNat + 1) ∧
    exec .shl s = .next { s with value := v } ∧
    (s.params.Wf → s.max = s.params.max → v.getLsbD 0 = false ∧
      ∀ i, i + 1 < s.params.ledCount → v.getLsbD (i + 1) = s.value.getLsbD i)

/-- The rest of rule R96: `SHL` in a state outside those bounds still completes, with the 32-bit product reduced. -/
def Obligations.ShlCompletesEverywhere : Prop :=
  ∀ s : State, ∃ v : Count, v.toNat = (2 * s.value.toNat % 2 ^ 32) % (s.max.toNat + 1) ∧
    exec .shl s = .next { s with value := v }

/-- Rule R97: `LOAD` ignores the old value and reduces `swv`; with `MAX = 2^LED_COUNT − 1` that is
`swv[LED_COUNT−1:0]`. -/
def Obligations.LoadReducesTheWord : Prop :=
  ∀ (s : State) (swv : Word), ∃ v : Count, v.toNat = swv.toNat % (s.max.toNat + 1) ∧
    exec (.load swv) s = .next { s with value := v } ∧
    (s.params.Wf → s.max = s.params.max →
      ∀ i, v.getLsbD i = (decide (i < s.params.ledCount) && swv.getLsbD i))

/-- Rule R74 (notation decision D21): `SHR`, `SHL` and `LOAD` have no semantics separate from `APPLY`'s. -/
def Obligations.PseudoOperationsAreApply : Prop :=
  ∀ (s : State) (swv : Word),
    exec .shr s = exec (.apply .shr) s ∧ exec .shl s = exec (.apply .shl) s ∧
    exec (.load swv) s = exec (.apply (.load swv)) s ∧
    runTransform .shr s.value = s.value >>> 1 ∧ runTransform .shl s.value = s.value <<< 1 ∧
    runTransform (.load swv) s.value = swv

/-- Rule R98: `TO_REG` is a pure read of `value` that changes no bit of it. -/
def Obligations.ToRegReadsTheCounter : Prop :=
  ∀ s : State, exec .toReg s = .next { s with result := .register s.value }

/-- Format `CNT` of rule R67 (decision D17): `HOLD` is "no change". -/
def Obligations.HoldChangesNothing : Prop :=
  ∀ s : State, exec .hold s = .next s

/-- Rule R99: every counter operation is total and keeps an in-range value in range, whatever the operand. -/
def Obligations.CounterStaysInRange : Prop :=
  ∀ (s : State) (i : Instr), s.value ≤ s.max →
    (i = .inc ∨ i = .dec ∨ i = .shr ∨ i = .shl ∨ (∃ w, i = .load w) ∨ (∃ f, i = .apply f)) →
    ∃ t, exec i s = .next t ∧ t.value ≤ t.max ∧ t.max = s.max

/-- Rule R100: `INC` and `DEC` are inverses in `[0, max]`, and `max + 1` times `INC` return to the start.  That `max + 1`
times `DEC` do too is the spec's own inference there, marked "[derived: ... from rule R93.]". -/
def Obligations.IncDecAreInverseCycles : Prop :=
  ∀ s : State, s.value ≤ s.max →
    (∃ t u, exec .dec s = .next t ∧ exec .inc t = .next u ∧ u.value = s.value) ∧
    (∃ t u, exec .inc s = .next t ∧ exec .dec t = .next u ∧ u.value = s.value) ∧
    (∃ t, execMany .inc (s.max.toNat + 1) s = .next t ∧ t.value = s.value) ∧
    (∃ t, execMany .dec (s.max.toNat + 1) s = .next t ∧ t.value = s.value)

/-! ## Input decoder -/

/-- Rule R105: `DECODE` by the number of set bits over all 32, then by the position of a lone bit; no state is written
(the event is returned). -/
def Obligations.DecodeCountsTheBits : Prop :=
  ∀ (s : State) (w : Word), ∃ e : ButtonEvent,
    exec (.decode w) s = .next { s with result := .event e } ∧
    ((∀ i, i < 32 → w.getLsbD i = false) → e = .none) ∧
    ((∃ i j, i < j ∧ j < 32 ∧ w.getLsbD i = true ∧ w.getLsbD j = true) → e = .multiple) ∧
    (∀ q, q < 32 → (∀ i, i < 32 → w.getLsbD i = decide (i = q)) →
      (q = 0 → e = .button0) ∧ (q = 1 → e = .button1) ∧ (q = 2 → e = .button2) ∧ (q = 3 → e = .button3))

/-- Rule R106 (decision D8, 90_conflicts.md C2): a lone bit at position 4..31 gives the OPEN parameter `EV_HIGH_SINGLE`. -/
def Obligations.LoneHighBitGivesTheParameter : Prop :=
  ∀ (s : State) (w : Word) (q : Nat), 4 ≤ q → q < 32 → (∀ i, i < 32 → w.getLsbD i = decide (i = q)) →
    exec (.decode w) s = .next { s with result := .event s.params.evHighSingle }

/-- Rule R107: the event depends on `w` alone (and on the parameter), not on the state. -/
def Obligations.DecodeDependsOnTheWordAlone : Prop :=
  ∀ (s s' : State) (w : Word), s.params.evHighSingle = s'.params.evHighSingle →
    ∃ t t', exec (.decode w) s = .next t ∧ exec (.decode w) s' = .next t' ∧ t.result = t'.result

/-- Rule R69, the table over the words the block can read: each selects its action. -/
def Obligations.ButtonWordsSelectActions : Prop :=
  ∀ (p : Params) (b : BitVec 4),
    decode p ⟨.btn, b.zeroExtend 32, []⟩ = .ok
      (match b.toNat with
      | 0 => .evNone
      | 1 => .evBtn0
      | 2 => .evBtn1
      | 4 => .evBtn2
      | 8 => .evBtn3
      | _ => .evMulti (b.zeroExtend 32))

/-! ## Control FSM -/

/-- Rule R114: `POLL` reads the buttons once and returns the decoded event; it writes no state of the block. -/
def Obligations.PollReadsAndDecodes : Prop :=
  ∀ s : State, exec .poll s = .next { passButtons s with
    bus := s.bus ++ [buttonsRead s.params (sampleButtons s)]
    result := .event (pinsEvent s.params (sampleButtons s)) }

/-- Rule R115: `GATE` returns "skip" exactly while a chord is being released or when nothing changed; it writes no
state. -/
def Obligations.GateSkipsHeldInputs : Prop :=
  ∀ (s : State) (cur : ButtonEvent), ∃ b : Bool,
    exec (.gate cur) s = .next { s with result := .skip b } ∧
    (b = true ↔ (s.prev = .multiple ∧ cur ≠ .none) ∨ cur = s.prev)

/-- Rule R121: `DISPATCH` performs exactly the action of its event, and completes. -/
def Obligations.DispatchSelectsTheAction : Prop :=
  ∀ s : State,
    exec (.dispatch .none) s = exec .evNone s ∧ exec (.dispatch .button0) s = exec .evBtn0 s ∧
    exec (.dispatch .button1) s = exec .evBtn1 s ∧ exec (.dispatch .button2) s = exec .evBtn2 s ∧
    exec (.dispatch .button3) s = exec .evBtn3 s ∧
    (∀ w, exec (.dispatch .multiple) s = exec (.evMulti w) s) ∧
    ∀ cur, ∃ t, exec (.dispatch cur) s = .next t

/-- Rules R116 to R120: what the five actions other than `EV_MULTI` do to the counter.  That an action executed alone does
nothing else (no write of `LEDS`, `prev` or `phase`) is the model's reading (DEDUCED, log entry 12). -/
def Obligations.ButtonActionsMoveTheCounter : Prop :=
  ∀ s : State,
    exec .evNone s = .next s ∧
    exec .evBtn0 s = .next { s with value := if s.value = s.max then 0 else s.value + 1 } ∧
    exec .evBtn1 s = .next { s with value := if s.value = 0 then s.max else s.value - 1 } ∧
    (∃ v : Count, v.toNat = (s.value.toNat / 2) % (s.max.toNat + 1) ∧
      exec .evBtn2 s = .next { s with value := v }) ∧
    (∃ v : Count, v.toNat = (2 * s.value.toNat % 2 ^ 32) % (s.max.toNat + 1) ∧
      exec .evBtn3 s = .next { s with value := v })

/-- Rule R122: `EV_MULTI` reads the switches once, loads the word reduced, sets `term` exactly when the unreduced word is
0 and otherwise leaves it.  That, executed alone, it changes nothing else (`LEDS`, `prev` and `phase` also when it sets
`term`) is the model's reading (DEDUCED, log entry 12). -/
def Obligations.ChordLoadsTheSwitches : Prop :=
  ∀ (s : State) (w : Word), ∃ (v : Count) (b : Bool),
    exec (.evMulti w) s = .next { passSwitches s with
      value := v
      term := b
      bus := s.bus ++ [⟨false, s.params.offSwitches, sampleSwitches s⟩] } ∧
    v.toNat = (sampleSwitches s).toNat % (s.max.toNat + 1) ∧
    (sampleSwitches s = 0 → b = true) ∧ (sampleSwitches s ≠ 0 → b = s.term)

/-- Rules R123 and R124 (when they are performed is decision D9): `LED_UPDATE` writes the counter's value to `LEDS`;
`PREV_UPDATE` is `prev <- cur`. -/
def Obligations.LedAndPrevUpdates : Prop :=
  ∀ (s : State) (cur : ButtonEvent),
    exec .ledUpdate s = .next { s with
      leds := s.value, bus := s.bus ++ [⟨true, s.params.offLeds, s.value⟩] } ∧
    exec (.prevUpdate cur) s = .next { s with prev := cur }

/-- Rules R25, R127 and R128 (decisions D10, D11 and D16): `SLEEP` in `PH_SLEEP` changes nothing but `PH_SLEEP -> PH_ITER`,
and `HALT` in `PH_HALT` nothing at all.  That `SLEEP` outside `PH_SLEEP` and `HALT` outside `PH_HALT` do nothing is the
model's reading (DEDUCED, log entry 9). -/
def Obligations.SleepWakesAndHaltStays : Prop :=
  ∀ s : State,
    (s.phase = .sleep → exec .sleep s = .next { s with phase := .iter }) ∧
    (s.phase ≠ .sleep → exec .sleep s = .next s) ∧ exec .halt s = .next s

/-- Rule R125 (decision D9): an iteration whose gate holds issues the one read and goes to `PH_SLEEP`; `value`, `prev`,
`term` and `LEDS` keep their values. -/
def Obligations.SkippedIterationOnlyPolls : Prop :=
  ∀ (s : State) (cur : ButtonEvent), s.phase = .iter → cur = pinsEvent s.params (sampleButtons s) →
    (s.prev = .multiple ∧ cur ≠ .none) ∨ cur = s.prev →
    exec .iterate s = .next { passButtons s with
      phase := .sleep
      bus := s.bus ++ [buttonsRead s.params (sampleButtons s)] }

/-- Rule R130 (the spec's own derivation from rules R113 to R126), the five events other than `Multiple`: the new counter,
`LEDS` showing it, `prev` the event, the two accesses, and `PH_HALT` or `PH_SLEEP` by the unchanged flag. -/
def Obligations.DispatchedIterationActs : Prop :=
  ∀ (s : State) (cur : ButtonEvent), s.phase = .iter → cur = pinsEvent s.params (sampleButtons s) →
    cur ≠ s.prev → s.prev ≠ .multiple ∨ cur = .none → cur ≠ .multiple →
    ∃ v : Count,
      exec .iterate s = .next { passButtons s with
        value := v
        leds := v
        prev := cur
        phase := if s.term then .halt else .sleep
        bus := s.bus ++ [buttonsRead s.params (sampleButtons s), ⟨true, s.params.offLeds, v⟩] } ∧
      (cur = .none → v = s.value) ∧
      (cur = .button0 → v = if s.value = s.max then 0 else s.value + 1) ∧
      (cur = .button1 → v = if s.value = 0 then s.max else s.value - 1) ∧
      (cur = .button2 → v.toNat = (s.value.toNat / 2) % (s.max.toNat + 1)) ∧
      (cur = .button3 → v.toNat = (2 * s.value.toNat % 2 ^ 32) % (s.max.toNat + 1))

/-- Rule R130, the event `Multiple` (the spec's own derivation): the switches are sampled after the buttons, `value` and
`LEDS` take the reduced word, and a 0 ends the loop. -/
def Obligations.ChordIterationActs : Prop :=
  ∀ s : State, s.phase = .iter → pinsEvent s.params (sampleButtons s) = .multiple → s.prev ≠ .multiple →
    ∃ (swv : Word) (v : Count) (b : Bool),
      swv = sampleSwitches (passButtons s) ∧ v.toNat = swv.toNat % (s.max.toNat + 1) ∧
      (swv = 0 → b = true) ∧ (swv ≠ 0 → b = s.term) ∧
      exec .iterate s = .next { passSwitches (passButtons s) with
        value := v
        leds := v
        prev := .multiple
        term := b
        phase := if b then .halt else .sleep
        bus := s.bus ++ [buttonsRead s.params (sampleButtons s), ⟨false, s.params.offSwitches, swv⟩,
          ⟨true, s.params.offLeds, v⟩] }

/-- Rule R54: no access in `PH_SLEEP` and `PH_HALT`, and `ITERATE` there does nothing (log entry 9). -/
def Obligations.IterateRestsOutsideIter : Prop :=
  ∀ s : State, s.phase ≠ .iter → exec .iterate s = .next s

/-! ## Steps of the block running alone -/

/-- Rule R54 (the spec's own derivation): the accesses a step issues, and their order. -/
def Obligations.AccessOrderOfAStep : Prop :=
  ∀ s t : State, BlockAlone s → step s = .next t →
    (s.phase ≠ .iter → t.bus = s.bus) ∧
    (s.phase = .iter → ∀ cur, cur = pinsEvent s.params (sampleButtons s) →
      (gateSkips s.prev cur = true → t.bus = s.bus ++ [buttonsRead s.params (sampleButtons s)]) ∧
      (gateSkips s.prev cur = false → cur ≠ .multiple →
        t.bus = s.bus ++ [buttonsRead s.params (sampleButtons s), ⟨true, s.params.offLeds, t.value⟩]) ∧
      (gateSkips s.prev cur = false → cur = .multiple → ∃ swv,
        t.bus = s.bus ++ [buttonsRead s.params (sampleButtons s), ⟨false, s.params.offSwitches, swv⟩,
          ⟨true, s.params.offLeds, t.value⟩]))

/-- Rule R129: with `prev = Multiple`, while every poll reads some button active, however many and for however long, the
machine dispatches nothing and stays `Multiple`; the first poll that reads `None` re-arms it.  The run's frame also rests
on rule R125's reading that a skip writes no `LEDS`, the spec's decision D9 (log entry 5), and on `PH_SLEEP` being left by
the next step (rule R127, decision D11, log entry 15). -/
def Obligations.ChordReleaseIsSuppressed : Prop :=
  ∀ (s : State) (held : List (BitVec 4)) (later : List (BitVec 4)),
    BlockAlone s → s.phase = .iter → s.prev = .multiple → s.btnIn = held ++ 0 :: later →
    (∀ b ∈ held, b ≠ 0) →
    runSteps (2 * held.length) s = .next { s with
      btnIn := 0 :: later, bus := s.bus ++ held.map (buttonsRead s.params) } ∧
    ∃ t : State, runSteps (2 * held.length + 1) s = .next t ∧ t.prev = .none ∧ t.value = s.value

/-- Rule R132 (the spec's own derivation): an input held for any number of further polls gives no second action.  The run's
frame also rests on rule R125's reading that a skip writes no `LEDS`, the spec's decision D9 (log entry 5), and on
`PH_SLEEP` being left by the next step (rule R127, decision D11, log entry 15). -/
def Obligations.HeldInputActsOnce : Prop :=
  ∀ (s : State) (held : List (BitVec 4)) (later : List (BitVec 4)),
    BlockAlone s → s.phase = .iter → s.btnIn = held ++ later →
    (∀ b ∈ held, pinsEvent s.params b = s.prev) →
    runSteps (2 * held.length) s = .next { s with
      btnIn := later, bus := s.bus ++ held.map (buttonsRead s.params) }

/-- 90_conflicts.md C3 and rule R175: a step ends the loop exactly when its poll first sees a chord and the switches it
then samples are all off. -/
def Obligations.ExitExactlyOnChordEdge : Prop :=
  ∀ s t : State, BlockAlone s → s.phase = .iter → s.term = false → step s = .next t →
    (t.phase = .halt ↔
      s.prev ≠ .multiple ∧ pinsEvent s.params (sampleButtons s) = .multiple ∧
        sampleSwitches (passButtons s) = 0)

/-- Rule R128 (decision D10): a halted block changes nothing, for ever (after Finalize too, which is log entry 16). -/
def Obligations.HaltIsForever : Prop :=
  ∀ (s : State) (k : Nat), s.offered = [] → s.phase = .halt → runSteps k s = .next s ∧ s.halted = true

/-- Rule R133 (d) (the spec's own derivation): after a non-skipped iteration `LEDS` is the counter, and a step of the
block alone keeps it so. -/
def Obligations.LedsFollowTheCounter : Prop :=
  ∀ s t : State, BlockAlone s → step s = .next t →
    (s.leds = s.value → t.leds = t.value) ∧
    (s.phase = .iter → gateSkips s.prev (pinsEvent s.params (sampleButtons s)) = false → t.leds = t.value)

/-- Rule R57 (decision D25): `LEDS` is never read back: two states that differ in it alone make steps that agree on
everything else. -/
def Obligations.LedsAreNeverReadBack : Prop :=
  ∀ (s t : State) (x : Word), step s = .next t →
    ∃ y, step { s with leds := x } = .next { t with leds := y }

/-- Rules R54 and R175: the switches matter only to the iteration that first sees a chord; in any other step, whatever
they show, the same thing happens. -/
def Obligations.SwitchesMatterOnlyToChordEdges : Prop :=
  ∀ (s t : State) (pins : List Word), BlockAlone s →
    ¬(s.phase = .iter ∧ s.prev ≠ .multiple ∧ pinsEvent s.params (sampleButtons s) = .multiple) →
    step s = .next t → step { s with swIn := pins } = .next { t with swIn := pins }

/-- Rule R145 (its clause that no operation of the running loop raises anything): a step with nothing offered always answers
a next state (that it does before Initialize and after Finalize is log entry 16), and the only operation of the set that can stop at all is an `ACCESS` outside the span. -/
def Obligations.NothingStopsTheBlock : Prop :=
  (∀ s : State, s.offered = [] → ∃ t, step s = .next t) ∧
  ∀ (i : Instr) (s : State),
    (∃ t, exec i s = .next t) ∨
    ∃ we off, i = .access we off ∧ s.params.span < off.toNat + 4 ∧
      exec i s = .refused (.preconditionViolation off.toNat)

/-- Rule R20's "Written by" column, rules R21 to R26: which operations change each element of the block, and that none
changes the parameters, `max`, the mapping or what is offered. -/
def Obligations.OnlyTheirWritersWrite : Prop :=
  ∀ (i : Instr) (s t : State), exec i s = .next t →
    t.params = s.params ∧ t.max = s.max ∧ t.mapping = s.mapping ∧ t.offered = s.offered ∧
    (t.prev ≠ s.prev → (∃ e, i = .prevUpdate e) ∨ i = .iterate) ∧
    (t.term ≠ s.term → (∃ w, i = .evMulti w) ∨ i = .dispatch .multiple ∨ i = .iterate) ∧
    (t.phase ≠ s.phase → i = .sleep ∨ i = .iterate) ∧
    (t.leds ≠ s.leds → (∃ r, i = .wrLeds r) ∨ i = .ledUpdate ∨ i = .iterate) ∧
    (t.value ≠ s.value → i = .evBtn0 ∨ i = .evBtn1 ∨ i = .evBtn2 ∨ i = .evBtn3 ∨ (∃ w, i = .evMulti w) ∨
      i = .inc ∨ i = .dec ∨ i = .shr ∨ i = .shl ∨ (∃ w, i = .load w) ∨ (∃ f, i = .apply f) ∨
      (∃ e, i = .dispatch e) ∨ i = .iterate) ∧
    (t.term = true ∨ s.term = false)

/-! ## The machine -/

/-- Rules R35 and R133: every step from a state that meets the invariant gives one that meets it. -/
def Obligations.StepKeepsTheInvariant : Prop :=
  ∀ s t : State, Inv s → step s = .next t → Inv t

/-- Rules R34 and R35: the state after reset meets the invariant, and so does the reset state of every block with
admissible parameters, whatever `LEDS` holds. -/
def Obligations.ResetMeetsTheInvariant : Prop :=
  Inv State.reset ∧ ∀ (p : Params) (leds : Word), p.Wf → Inv (State.resetWith p leds)

/-- Rules R34 and R160 (decisions D5, D10, D15, D16 and D19): what a reset leaves from any state, also from the middle of
a run and from `PH_HALT`; `LEDS` is a free value.  That the mapping and the history are kept is log entry 16. -/
def Obligations.ResetSetsEveryElement : Prop :=
  ∀ s : State,
    (hostReset s).value = s.params.counterInit ∧ (hostReset s).max = s.params.max ∧
    (hostReset s).prev = .none ∧ (hostReset s).term = false ∧ (hostReset s).phase = .iter ∧
    (hostReset s).leds = Config.freeLeds s.draws ∧ (hostReset s).halted = false ∧
    (hostReset s).params = s.params ∧ (hostReset s).bus = s.bus ∧ (hostReset s).mapping = s.mapping ∧
    State.reset.params.Wf ∧ State.reset.value = State.reset.params.counterInit ∧
    State.reset.max = State.reset.params.max ∧ State.reset.prev = .none ∧ State.reset.term = false ∧
    State.reset.phase = .iter ∧ State.reset.mapping = .valid

/-- With the mapping valid (rule R161) a step runs the operation it takes (rule R151; the offered commands are log entry 4):
the decoded command a test bench offers, or the sequencer's own operation for the phase; a command without an operation is
refused. -/
def Obligations.StepRunsTheOperation : Prop :=
  ∀ s : State, s.mapping = .valid →
    (∀ c later i, s.offered = c :: later → decode s.params c = .ok i →
      step s = exec i { s with offered := later }) ∧
    (∀ c later r, s.offered = c :: later → decode s.params c = .error r →
      step s = .refused (commandRefusal s.params r)) ∧
    (s.offered = [] → s.phase = .iter → step s = exec .iterate s) ∧
    (s.offered = [] → s.phase = .sleep → step s = exec .sleep s) ∧
    (s.offered = [] → s.phase = .halt → step s = exec .halt s)

/-- Rules R113 and R114: in `PH_ITER` the word the poll reads plays the instruction: when it decodes to an action and the
gate lets it through, the step is that action's `exec` after the read, with steps 4 and 5 and the end of rule R126
around it. -/
def Obligations.StepRunsThePolledAction : Prop :=
  ∀ (s : State) (i : Instr), BlockAlone s → s.phase = .iter →
    decode s.params ⟨.btn, (sampleButtons s).zeroExtend 32, []⟩ = .ok i →
    gateSkips s.prev (pinsEvent s.params (sampleButtons s)) = false →
    ∃ t : State,
      exec i { passButtons s with bus := s.bus ++ [buttonsRead s.params (sampleButtons s)] } = .next t ∧
      step s = .next { t with
        leds := t.value
        prev := pinsEvent s.params (sampleButtons s)
        phase := if t.term then .halt else .sleep
        bus := t.bus ++ [⟨true, s.params.offLeds, t.value⟩] }

/-! ## Encoding -/

/-- Decoding the command of a well-formed operation gives the operation back, with every operand at every value
(30_encoding.md; the codes of format `gen` are the model's, log entry 6). -/
def Obligations.DecodeReadsEveryEncoding : Prop :=
  ∀ (p : Params) (i : Instr), p.Wf → i.wellFormed = true → decode p (encode p i) = .ok i

/-- A few words of each format written out from rules R62, R66, R67 and R68 decode to their operations. -/
def Obligations.WrittenOutWordsDecode : Prop :=
  ∀ p : Params, p.offButtons = 0x50 → p.offSwitches = 0x40 → p.offLeds = 0x00 →
    decode p ⟨.btn, 0b0100, []⟩ = .ok .evBtn2 ∧
    decode p ⟨.btn, 0b1010, []⟩ = .ok (.evMulti 0b1010) ∧
    decode p ⟨.bus, 0b0000000001010000, []⟩ = .ok .rdButtons ∧
    decode p ⟨.bus, 0b0000000001000000, []⟩ = .ok .rdSwitches ∧
    decode p ⟨.bus, 0b1000000000000000, [0xA]⟩ = .ok (.wrLeds 0xA) ∧
    decode p ⟨.cnt, 0b010, []⟩ = .ok .dec ∧
    decode p ⟨.cnt, 0b101, [0x3FF]⟩ = .ok (.load 0x3FF) ∧
    decode p ⟨.seq, 4, []⟩ = .ok .ledUpdate ∧
    decode p ⟨.seq, 3, [0b101]⟩ = .ok (.dispatch .multiple)

/-- Rules R65 to R68 and R71 (decision D17): the codes the formats leave unused have no meaning, whatever operands come
with them. -/
def Obligations.UnusedCodesAreRejected : Prop :=
  ∀ (p : Params) (code : Word) (operands : List Word),
    (6 ≤ code.toNat → decode p ⟨.cnt, code, operands⟩ = .error (.unassignedCode .cnt code.toNat)) ∧
    (code = 0 ∨ 8 ≤ code.toNat →
      decode p ⟨.seq, code, operands⟩ = .error (.unassignedCode .seq code.toNat)) ∧
    (2 ^ 16 ≤ code.toNat → decode p ⟨.bus, code, operands⟩ = .error (.unassignedCode .bus code.toNat)) ∧
    (6 ≤ code.toNat → decodeEvent code.toNat = .error (.eventCode code.toNat))

/-- Rule R71, the row of `BUS` commands, with rules R47 to R49 (decisions D2, D13 and D14; that a command comes from outside
is log entry 4, and the names are the model's): a step that takes a `BUS` command other than the three of rule R66,
written by rule R66's table, is refused with the very refusal `MemRead` or `MemWrite` gives that access. -/
def Obligations.UndescribedBusCommandsAreRefused : Prop :=
  ∀ (s : State) (we : Bool) (off : Offset) (code : Word) (data : List Word) (later : List Command),
    s.params.Wf → s.mapping = .valid → code.toNat = (if we then 0x8000 else 0) + off.toNat →
    s.offered = ⟨.bus, code, data⟩ :: later →
    (we = false → off ≠ s.params.offButtons → off ≠ s.params.offSwitches →
      ∃ why, step s = .refused why ∧ memRead off.toNat 4 s = .error why) ∧
    (we = true → off ≠ s.params.offLeds →
      ∃ why, step s = .refused why ∧ ∀ v, memWrite off.toNat 4 v s = .error why) ∧
    (0x5000 < off.toNat + 4 → step s = .refused (.preconditionViolation off.toNat)) ∧
    (off.toNat % 4 ≠ 0 → off.toNat + 4 ≤ 0x5000 → step s = .refused (.unmappedOffset off.toNat)) ∧
    (we = false → off = s.params.offLeds → step s = .refused .readOfLeds) ∧
    (we = true → off = s.params.offSwitches ∨ off = s.params.offButtons →
      step s = .refused (.writeOfReadOnly off.toNat))

/-! ## The host -/

/-- Rules R141, R153, R161 and R162 (decisions D19 and D22): Initialize makes the mapping or faults with `MappingError`;
until it has succeeded a step does nothing, so `LEDS` is never written.  Rule R152 lets it "succeed exactly once": that a
second one is refused, with the mapping valid or released, and the field `mapping` itself are the model's form (DESIGN
CHOICE, log entry 16). -/
def Obligations.HeldInResetUntilMapped : Prop :=
  ∀ s : State,
    (s.mapping = .absent →
      (∀ k, runSteps k s = .next s) ∧
      hostInitialize true s = .next { s with mapping := .valid } ∧
      hostInitialize false s = .fault .mappingError ∧
      hostFailStatus s.params .mappingError = s.params.exitFailStatus) ∧
    (s.mapping ≠ .absent → ∀ ok, hostInitialize ok s = .refused .initializeAgain)

/-- Rules R143 and R154: Finalize after the loop has returned releases the mapping and touches no register; the process
status is then 0.  Rule R152 forbids it "twice, or before the loop returns" and gives those orders no effect: that they
are refused, and so is one before Initialize, is the model's form (DESIGN CHOICE, log entry 16). -/
def Obligations.FinalizeOnceAfterTheLoop : Prop :=
  ∀ s : State,
    (s.mapping = .valid → s.phase = .halt →
      hostFinalize s = .next { s with mapping := .released } ∧
      hostFinalize { s with mapping := .released } = .refused .finalizeAgain ∧
      hostExitStatus s = some 0) ∧
    (s.mapping = .valid → s.phase ≠ .halt →
      hostFinalize s = .refused .finalizeTooEarly ∧ hostExitStatus s = none) ∧
    (s.mapping = .absent → hostFinalize s = .refused .finalizeTooEarly) ∧
    (s.mapping = .released → hostFinalize s = .refused .finalizeAgain)

/-- After Finalize, where the spec leaves everything unsaid (93_implementation_defined.md U16; the launch state of rule R161
has the mapping valid), the model runs nothing: no step changes anything, whatever is offered, a reset or not, so `LEDS`
keeps its value until that reset (DESIGN CHOICE, log entry 16). -/
def Obligations.NothingRunsAfterFinalize : Prop :=
  ∀ (s : State) (k : Nat), s.mapping = .released →
    runSteps k s = .next s ∧ runSteps k (hostReset s) = .next (hostReset s) ∧
    ∀ ok, hostInitialize ok (hostReset s) = .refused .initializeAgain
end

