-- ==== Sys2Proof/Laws/Config.lean ====
section
/-! SUPPORT. The platform's parameters are admissible, whatever the uninterpreted constants are. -/

namespace Sys2Proof

theorem Config.switchesIndex_lt : Config.switchesIndex < 5120 := Nat.mod_lt _ (by decide)

theorem Config.buttonsIndex_lt : Config.buttonsIndex < 5120 := by
  have := Nat.mod_lt Config.rawButtonsIndex (show 0 < 5119 by decide)
  unfold Config.buttonsIndex
  split <;> omega

theorem Config.buttonsIndex_ne : Config.switchesIndex ≠ Config.buttonsIndex := by
  unfold Config.buttonsIndex
  split <;> omega

theorem Config.ledsIndex_spec : Config.ledsIndex < 5120 ∧ Config.switchesIndex ≠ Config.ledsIndex ∧
    Config.buttonsIndex ≠ Config.ledsIndex := by
  have hs := Config.switchesIndex_lt
  have hb := Config.buttonsIndex_lt
  have hne := Config.buttonsIndex_ne
  have hk := Nat.mod_lt Config.rawLedsIndex (show 0 < 5118 by decide)
  unfold Config.ledsIndex
  dsimp only
  split
  · omega
  · split <;> omega

theorem Config.ledCount_range : 1 ≤ Config.ledCount ∧ Config.ledCount ≤ 31 := by
  have := Nat.mod_lt Config.rawLedCount (show 0 < 31 by decide)
  unfold Config.ledCount
  omega

/-- `MAX` as a number. -/
theorem Params.max_toNat {p : Params} (h : p.ledCount ≤ 31) : p.max.toNat = 2 ^ p.ledCount - 1 := by
  have hle : 2 ^ p.ledCount ≤ 2 ^ 31 := Nat.pow_le_pow_right (by decide) h
  have h31 : (2 : Nat) ^ 31 = 2147483648 := by decide
  unfold Params.max
  rw [BitVec.toNat_ofNat, Nat.mod_eq_of_lt]
  omega

/-- Rule R90: `0 <= MAX <= 2^31 − 1`. -/
theorem Params.max_lt {p : Params} (h : p.ledCount ≤ 31) : p.max.toNat < 2 ^ 31 := by
  have hle : 2 ^ p.ledCount ≤ 2 ^ 31 := Nat.pow_le_pow_right (by decide) h
  have hpos : 0 < 2 ^ p.ledCount := Nat.pow_pos (by decide)
  rw [Params.max_toNat h]
  omega

/-- A word index gives an offset inside the window on a word boundary. -/
theorem Config.offset_toNat {k : Nat} (h : k < 5120) : (BitVec.ofNat 15 (4 * k)).toNat = 4 * k := by
  rw [BitVec.toNat_ofNat, Nat.mod_eq_of_lt]
  omega

theorem Config.offset_ne {j k : Nat} (hj : j < 5120) (hk : k < 5120) (h : j ≠ k) :
    BitVec.ofNat 15 (4 * j) ≠ BitVec.ofNat 15 (4 * k) := by
  intro he
  have := congrArg BitVec.toNat he
  rw [Config.offset_toNat hj, Config.offset_toNat hk] at this
  omega

/-- Rule R14: non-zero. -/
theorem Config.exitFailStatus_ne : Config.exitFailStatus ≠ 0 := by
  unfold Config.exitFailStatus
  split <;> omega

/-- The platform meets rules R7 to R9, R11, R12 and R14. -/
theorem Config.platform_wf : Config.platform.Wf := by
  have hs := Config.switchesIndex_lt
  have hb := Config.buttonsIndex_lt
  obtain ⟨hl, hsl, hbl⟩ := Config.ledsIndex_spec
  obtain ⟨h1, h31⟩ := Config.ledCount_range
  have hsw := Nat.mod_lt Config.rawSwitchCount (show 0 < 32 by decide)
  have hci : Config.platform.counterInit ≤ Config.platform.max := by
    have hle : 2 ^ Config.ledCount ≤ 2 ^ 31 := Nat.pow_le_pow_right (by decide) h31
    have hpos : 0 < 2 ^ Config.ledCount := Nat.pow_pos (by decide)
    have hlt := Nat.mod_lt Config.rawCounterInit hpos
    have h231 : (2 : Nat) ^ 31 = 2147483648 := by decide
    rw [BitVec.le_def, Params.max_toNat (p := Config.platform) h31]
    simp only [Config.platform]
    rw [BitVec.toNat_ofNat, Nat.mod_eq_of_lt (by omega)]
    omega
  refine ⟨rfl, rfl, ?_, ?_, ?_, ?_, ?_, ?_, ⟨h1, h31⟩, ?_, hci, Nat.succ_pos _, Config.exitFailStatus_ne⟩
  · simp only [Params.OffsetWf, Config.platform, Config.offset_toNat hs]; omega
  · simp only [Params.OffsetWf, Config.platform, Config.offset_toNat hb]; omega
  · simp only [Params.OffsetWf, Config.platform, Config.offset_toNat hl]; omega
  · exact Config.offset_ne hs hb Config.buttonsIndex_ne
  · exact Config.offset_ne hs hl hsl
  · exact Config.offset_ne hb hl hbl
  · simp only [Config.platform]; omega

end Sys2Proof
end

