-- ==== Sys2Proof/Laws/Operands.lean ====
section
/-! SUPPORT. What the operand forms compute, said over the integers: fields, the reduction `mod (max + 1)`, the two
shifts, and the written-out transforms. -/

namespace Sys2Proof.Machine

theorem lowBits_toNat (n : Nat) (w : Word) : (lowBits n w).toNat = w.toNat % 2 ^ n := by
  have h : w.toNat % 2 ^ n < 2 ^ 32 := lt_of_le_of_lt (Nat.mod_le _ _) w.isLt
  rw [lowBits, BitVec.toNat_ofNat, Nat.mod_eq_of_lt h]

/-- Bit `i` of a field is the word's bit `i` inside the field and 0 above it. -/
theorem lowBits_getLsbD (n : Nat) (w : Word) (i : Nat) :
    (lowBits n w).getLsbD i = (decide (i < n) && w.getLsbD i) := by
  rw [← BitVec.testBit_toNat, ← BitVec.testBit_toNat, lowBits_toNat, Nat.testBit_mod_two_pow]

theorem zextButtons_toNat (b : BitVec 4) : (zextButtons b).toNat = b.toNat := by
  have := b.isLt
  simp only [zextButtons, BitVec.truncate_eq_setWidth, BitVec.toNat_setWidth]
  omega

theorem wrapCount_toNat (max v : Count) : (wrapCount max v).toNat = v.toNat % (max.toNat + 1) := by
  have h : v.toNat % (max.toNat + 1) < 2 ^ 32 := lt_of_le_of_lt (Nat.mod_le _ _) v.isLt
  rw [wrapCount, BitVec.toNat_ofNat, Nat.mod_eq_of_lt h]

/-- Rule R99: `apply(f)` "always yields a result in `[0,max]`". -/
theorem wrapCount_le (max v : Count) : wrapCount max v ≤ max := by
  rw [BitVec.le_def, wrapCount_toNat]
  exact Nat.lt_succ_iff.mp (Nat.mod_lt v.toNat (Nat.succ_pos max.toNat))

theorem wrapCount_of_le {max v : Count} (h : v ≤ max) : wrapCount max v = v := by
  rw [BitVec.le_def] at h
  apply BitVec.eq_of_toNat_eq
  rw [wrapCount_toNat, Nat.mod_eq_of_lt (by omega)]

theorem incremented_le {max v : Count} (h : v ≤ max) : incremented max v ≤ max := by
  unfold incremented
  split <;> bv_omega

theorem decremented_le {max v : Count} (h : v ≤ max) : decremented max v ≤ max := by
  unfold decremented
  split <;> bv_omega

/-- Rule R100, the inverses. -/
theorem decremented_incremented {max v : Count} (h : v ≤ max) :
    decremented max (incremented max v) = v := by
  by_cases hv : v = max
  · simp [decremented, incremented, hv]
  · have hne : v + 1 ≠ 0 := by bv_omega
    rw [incremented, if_neg hv, decremented, if_neg hne]
    bv_omega

/-- Rule R100, the inverses. -/
theorem incremented_decremented {max v : Count} (h : v ≤ max) :
    incremented max (decremented max v) = v := by
  by_cases hv : v = 0
  · simp [decremented, incremented, hv]
  · have hne : v - 1 ≠ max := by bv_omega
    rw [decremented, if_neg hv, incremented, if_neg hne]
    bv_omega

theorem runTransform_shr_toNat (v : Count) : (runTransform .shr v).toNat = v.toNat / 2 := by
  simp only [runTransform, BitVec.toNat_ushiftRight, Nat.shiftRight_eq_div_pow, pow_one]

theorem runTransform_shl_toNat {v : Count} (h : v.toNat < 2 ^ 31) :
    (runTransform .shl v).toNat = 2 * v.toNat := by
  simp only [runTransform, BitVec.toNat_shiftLeft, Nat.shiftLeft_eq]
  omega

/-- A written-out transform has the values of its rows. -/
theorem lookupRow_map (f : Count → Count) (keys : List Count) (d x : Count) (h : x ∈ keys) :
    lookupRow (keys.map fun k => (k, f k)) d x = f x := by
  induction keys with
  | nil => cases h
  | cons k rest ih =>
    by_cases hk : x = k
    · simp [lookupRow, hk]
    · have : x ∈ rest := by simpa [hk] using h
      simp [lookupRow, hk, ih this]

end Sys2Proof.Machine
end

