-- ==== Sys2Proof/Laws/Decode.lean ====
section
/-! SUPPORT. What the input decoder answers, and that the codes of rules R65 and R66 read back. -/

namespace Sys2Proof

open Machine

/-- Rule R105, the three cases over all 32 bits. -/
theorem decodeButtons_cases (h : ButtonEvent) (w : Word) :
    (popcount w = 0 ∧ decodeButtons h w = .none) ∨
    (2 ≤ popcount w ∧ decodeButtons h w = .multiple) ∨
    (popcount w = 1 ∧ decodeButtons h w =
      if w.getLsbD 0 then .button0 else if w.getLsbD 1 then .button1
      else if w.getLsbD 2 then .button2 else if w.getLsbD 3 then .button3 else h) := by
  unfold decodeButtons
  rcases Nat.lt_trichotomy (popcount w) 1 with h0 | h1 | h2
  · left; simp [show popcount w = 0 by omega]
  · right; right; simp [h1]
  · right; left; exact ⟨h2, by rw [if_neg (by omega), if_pos (show 2 ≤ popcount w from h2)]⟩

theorem decodeButtons_multiple {h : ButtonEvent} {w : Word} (hw : 2 ≤ popcount w) :
    decodeButtons h w = .multiple := by
  rw [decodeButtons, if_neg (by omega), if_pos hw]

/-- Rule R108: on the words the block can read the decoder is the one-hot classifier, whatever `EV_HIGH_SINGLE` is. -/
theorem decodeButtons_zext (h : ButtonEvent) (b : BitVec 4) :
    decodeButtons h (zextButtons b) =
      if b = 0 then .none else if b = 1 then .button0 else if b = 2 then .button1
      else if b = 4 then .button2 else if b = 8 then .button3 else .multiple := by
  revert b
  cases h <;> decide

/-- Rule R69, the five words that are not chords. -/
theorem decodeButtons_oneHot (h : ButtonEvent) :
    decodeButtons h 0#32 = .none ∧ decodeButtons h 1#32 = .button0 ∧ decodeButtons h 2#32 = .button1 ∧
    decodeButtons h 4#32 = .button2 ∧ decodeButtons h 8#32 = .button3 := by
  cases h <;> decide

theorem decodeEvent_eventCode (e : ButtonEvent) : decodeEvent (eventCode e).toNat = .ok e := by
  cases e <;> rfl

theorem busCode_toNat (we : Bool) (off : Offset) :
    (busCode we off).toNat = off.toNat + if we then 2 ^ 15 else 0 := by
  have := off.isLt
  unfold busCode
  cases we <;> simp only [BitVec.toNat_ofNat] <;> simp <;> omega

theorem busCode_lt (we : Bool) (off : Offset) : (busCode we off).toNat < 65536 := by
  have := off.isLt
  rw [busCode_toNat]
  cases we <;> simp <;> omega

theorem busWe_busCode (we : Bool) (off : Offset) : busWe (busCode we off) = we := by
  have h := off.isLt
  rw [busWe, ← BitVec.testBit_toNat, busCode_toNat]
  cases we
  · simpa using Nat.testBit_lt_two_pow h
  · rw [if_pos rfl, Nat.add_comm, Nat.testBit_two_pow_add_eq, Nat.testBit_lt_two_pow h]; rfl

theorem busOff_busCode (we : Bool) (off : Offset) : busOff (busCode we off) = off := by
  have h := off.isLt
  apply BitVec.eq_of_toNat_eq
  rw [busOff, BitVec.extractLsb'_toNat, busCode_toNat]
  cases we <;> simp <;> omega

/-- Rule R71: a `BUS` command other than the three of rule R66 is rejected, whatever data comes with it. -/
theorem decodeBus_undescribed {p : Params} {we : Bool} {off : Offset} (operands : List Word)
    (h : if we then off ≠ p.offLeds else off ≠ p.offButtons ∧ off ≠ p.offSwitches) :
    decodeBus p (busCode we off) operands = .error (.undescribedAccess we off) := by
  rw [decodeBus, if_neg (by have := busCode_lt we off; omega), busWe_busCode, busOff_busCode]
  cases we
  · obtain ⟨hb, hs⟩ : off ≠ p.offButtons ∧ off ≠ p.offSwitches := by simpa using h
    simp [hb, hs]
  · have hl : off ≠ p.offLeds := by simpa using h
    simp [hl]

theorem decodeRows_encodeRows (rows : List (Count × Count)) : decodeRows (encodeRows rows) = some rows := by
  induction rows with
  | nil => rfl
  | cons r rest ih => simp [encodeRows, decodeRows, ih]

end Sys2Proof
end

