-- ==== Sys2Proof/Laws/State.lean ====
section
/-! SUPPORT. What each plain update of the state does to each field, so that no proof unfolds a record update. -/

namespace Sys2Proof.Machine

variable (s : State)

@[simp] theorem State.setValue_params (v : Count) : (s.setValue v).params = s.params := rfl
@[simp] theorem State.setValue_value (v : Count) : (s.setValue v).value = v := rfl
@[simp] theorem State.setValue_max (v : Count) : (s.setValue v).max = s.max := rfl
@[simp] theorem State.setValue_prev (v : Count) : (s.setValue v).prev = s.prev := rfl
@[simp] theorem State.setValue_term (v : Count) : (s.setValue v).term = s.term := rfl
@[simp] theorem State.setValue_phase (v : Count) : (s.setValue v).phase = s.phase := rfl
@[simp] theorem State.setValue_leds (v : Count) : (s.setValue v).leds = s.leds := rfl
@[simp] theorem State.setValue_mapping (v : Count) : (s.setValue v).mapping = s.mapping := rfl
@[simp] theorem State.setValue_btnIn (v : Count) : (s.setValue v).btnIn = s.btnIn := rfl
@[simp] theorem State.setValue_swIn (v : Count) : (s.setValue v).swIn = s.swIn := rfl
@[simp] theorem State.setValue_draws (v : Count) : (s.setValue v).draws = s.draws := rfl
@[simp] theorem State.setValue_bus (v : Count) : (s.setValue v).bus = s.bus := rfl
@[simp] theorem State.setValue_result (v : Count) : (s.setValue v).result = s.result := rfl
@[simp] theorem State.setValue_offered (v : Count) : (s.setValue v).offered = s.offered := rfl

@[simp] theorem State.setPrev_params (e : ButtonEvent) : (s.setPrev e).params = s.params := rfl
@[simp] theorem State.setPrev_value (e : ButtonEvent) : (s.setPrev e).value = s.value := rfl
@[simp] theorem State.setPrev_max (e : ButtonEvent) : (s.setPrev e).max = s.max := rfl
@[simp] theorem State.setPrev_prev (e : ButtonEvent) : (s.setPrev e).prev = e := rfl
@[simp] theorem State.setPrev_term (e : ButtonEvent) : (s.setPrev e).term = s.term := rfl
@[simp] theorem State.setPrev_phase (e : ButtonEvent) : (s.setPrev e).phase = s.phase := rfl
@[simp] theorem State.setPrev_leds (e : ButtonEvent) : (s.setPrev e).leds = s.leds := rfl
@[simp] theorem State.setPrev_mapping (e : ButtonEvent) : (s.setPrev e).mapping = s.mapping := rfl
@[simp] theorem State.setPrev_btnIn (e : ButtonEvent) : (s.setPrev e).btnIn = s.btnIn := rfl
@[simp] theorem State.setPrev_swIn (e : ButtonEvent) : (s.setPrev e).swIn = s.swIn := rfl
@[simp] theorem State.setPrev_draws (e : ButtonEvent) : (s.setPrev e).draws = s.draws := rfl
@[simp] theorem State.setPrev_bus (e : ButtonEvent) : (s.setPrev e).bus = s.bus := rfl
@[simp] theorem State.setPrev_result (e : ButtonEvent) : (s.setPrev e).result = s.result := rfl
@[simp] theorem State.setPrev_offered (e : ButtonEvent) : (s.setPrev e).offered = s.offered := rfl

@[simp] theorem State.setTerm_params (b : Bool) : (s.setTerm b).params = s.params := rfl
@[simp] theorem State.setTerm_value (b : Bool) : (s.setTerm b).value = s.value := rfl
@[simp] theorem State.setTerm_max (b : Bool) : (s.setTerm b).max = s.max := rfl
@[simp] theorem State.setTerm_prev (b : Bool) : (s.setTerm b).prev = s.prev := rfl
@[simp] theorem State.setTerm_term (b : Bool) : (s.setTerm b).term = b := rfl
@[simp] theorem State.setTerm_phase (b : Bool) : (s.setTerm b).phase = s.phase := rfl
@[simp] theorem State.setTerm_leds (b : Bool) : (s.setTerm b).leds = s.leds := rfl
@[simp] theorem State.setTerm_mapping (b : Bool) : (s.setTerm b).mapping = s.mapping := rfl
@[simp] theorem State.setTerm_btnIn (b : Bool) : (s.setTerm b).btnIn = s.btnIn := rfl
@[simp] theorem State.setTerm_swIn (b : Bool) : (s.setTerm b).swIn = s.swIn := rfl
@[simp] theorem State.setTerm_draws (b : Bool) : (s.setTerm b).draws = s.draws := rfl
@[simp] theorem State.setTerm_bus (b : Bool) : (s.setTerm b).bus = s.bus := rfl
@[simp] theorem State.setTerm_result (b : Bool) : (s.setTerm b).result = s.result := rfl
@[simp] theorem State.setTerm_offered (b : Bool) : (s.setTerm b).offered = s.offered := rfl

@[simp] theorem State.setPhase_params (ph : Phase) : (s.setPhase ph).params = s.params := rfl
@[simp] theorem State.setPhase_value (ph : Phase) : (s.setPhase ph).value = s.value := rfl
@[simp] theorem State.setPhase_max (ph : Phase) : (s.setPhase ph).max = s.max := rfl
@[simp] theorem State.setPhase_prev (ph : Phase) : (s.setPhase ph).prev = s.prev := rfl
@[simp] theorem State.setPhase_term (ph : Phase) : (s.setPhase ph).term = s.term := rfl
@[simp] theorem State.setPhase_phase (ph : Phase) : (s.setPhase ph).phase = ph := rfl
@[simp] theorem State.setPhase_leds (ph : Phase) : (s.setPhase ph).leds = s.leds := rfl
@[simp] theorem State.setPhase_mapping (ph : Phase) : (s.setPhase ph).mapping = s.mapping := rfl
@[simp] theorem State.setPhase_btnIn (ph : Phase) : (s.setPhase ph).btnIn = s.btnIn := rfl
@[simp] theorem State.setPhase_swIn (ph : Phase) : (s.setPhase ph).swIn = s.swIn := rfl
@[simp] theorem State.setPhase_draws (ph : Phase) : (s.setPhase ph).draws = s.draws := rfl
@[simp] theorem State.setPhase_bus (ph : Phase) : (s.setPhase ph).bus = s.bus := rfl
@[simp] theorem State.setPhase_result (ph : Phase) : (s.setPhase ph).result = s.result := rfl
@[simp] theorem State.setPhase_offered (ph : Phase) : (s.setPhase ph).offered = s.offered := rfl

@[simp] theorem State.setLeds_params (w : Word) : (s.setLeds w).params = s.params := rfl
@[simp] theorem State.setLeds_value (w : Word) : (s.setLeds w).value = s.value := rfl
@[simp] theorem State.setLeds_max (w : Word) : (s.setLeds w).max = s.max := rfl
@[simp] theorem State.setLeds_prev (w : Word) : (s.setLeds w).prev = s.prev := rfl
@[simp] theorem State.setLeds_term (w : Word) : (s.setLeds w).term = s.term := rfl
@[simp] theorem State.setLeds_phase (w : Word) : (s.setLeds w).phase = s.phase := rfl
@[simp] theorem State.setLeds_leds (w : Word) : (s.setLeds w).leds = w := rfl
@[simp] theorem State.setLeds_mapping (w : Word) : (s.setLeds w).mapping = s.mapping := rfl
@[simp] theorem State.setLeds_btnIn (w : Word) : (s.setLeds w).btnIn = s.btnIn := rfl
@[simp] theorem State.setLeds_swIn (w : Word) : (s.setLeds w).swIn = s.swIn := rfl
@[simp] theorem State.setLeds_draws (w : Word) : (s.setLeds w).draws = s.draws := rfl
@[simp] theorem State.setLeds_bus (w : Word) : (s.setLeds w).bus = s.bus := rfl
@[simp] theorem State.setLeds_result (w : Word) : (s.setLeds w).result = s.result := rfl
@[simp] theorem State.setLeds_offered (w : Word) : (s.setLeds w).offered = s.offered := rfl

@[simp] theorem State.setMapping_params (m : Mapping) : (s.setMapping m).params = s.params := rfl
@[simp] theorem State.setMapping_value (m : Mapping) : (s.setMapping m).value = s.value := rfl
@[simp] theorem State.setMapping_max (m : Mapping) : (s.setMapping m).max = s.max := rfl
@[simp] theorem State.setMapping_prev (m : Mapping) : (s.setMapping m).prev = s.prev := rfl
@[simp] theorem State.setMapping_term (m : Mapping) : (s.setMapping m).term = s.term := rfl
@[simp] theorem State.setMapping_phase (m : Mapping) : (s.setMapping m).phase = s.phase := rfl
@[simp] theorem State.setMapping_leds (m : Mapping) : (s.setMapping m).leds = s.leds := rfl
@[simp] theorem State.setMapping_mapping (m : Mapping) : (s.setMapping m).mapping = m := rfl
@[simp] theorem State.setMapping_btnIn (m : Mapping) : (s.setMapping m).btnIn = s.btnIn := rfl
@[simp] theorem State.setMapping_swIn (m : Mapping) : (s.setMapping m).swIn = s.swIn := rfl
@[simp] theorem State.setMapping_draws (m : Mapping) : (s.setMapping m).draws = s.draws := rfl
@[simp] theorem State.setMapping_bus (m : Mapping) : (s.setMapping m).bus = s.bus := rfl
@[simp] theorem State.setMapping_result (m : Mapping) : (s.setMapping m).result = s.result := rfl
@[simp] theorem State.setMapping_offered (m : Mapping) : (s.setMapping m).offered = s.offered := rfl

@[simp] theorem State.setBtnIn_params (pins : List (BitVec 4)) : (s.setBtnIn pins).params = s.params := rfl
@[simp] theorem State.setBtnIn_value (pins : List (BitVec 4)) : (s.setBtnIn pins).value = s.value := rfl
@[simp] theorem State.setBtnIn_max (pins : List (BitVec 4)) : (s.setBtnIn pins).max = s.max := rfl
@[simp] theorem State.setBtnIn_prev (pins : List (BitVec 4)) : (s.setBtnIn pins).prev = s.prev := rfl
@[simp] theorem State.setBtnIn_term (pins : List (BitVec 4)) : (s.setBtnIn pins).term = s.term := rfl
@[simp] theorem State.setBtnIn_phase (pins : List (BitVec 4)) : (s.setBtnIn pins).phase = s.phase := rfl
@[simp] theorem State.setBtnIn_leds (pins : List (BitVec 4)) : (s.setBtnIn pins).leds = s.leds := rfl
@[simp] theorem State.setBtnIn_mapping (pins : List (BitVec 4)) : (s.setBtnIn pins).mapping = s.mapping := rfl
@[simp] theorem State.setBtnIn_btnIn (pins : List (BitVec 4)) : (s.setBtnIn pins).btnIn = pins := rfl
@[simp] theorem State.setBtnIn_swIn (pins : List (BitVec 4)) : (s.setBtnIn pins).swIn = s.swIn := rfl
@[simp] theorem State.setBtnIn_draws (pins : List (BitVec 4)) : (s.setBtnIn pins).draws = s.draws := rfl
@[simp] theorem State.setBtnIn_bus (pins : List (BitVec 4)) : (s.setBtnIn pins).bus = s.bus := rfl
@[simp] theorem State.setBtnIn_result (pins : List (BitVec 4)) : (s.setBtnIn pins).result = s.result := rfl
@[simp] theorem State.setBtnIn_offered (pins : List (BitVec 4)) : (s.setBtnIn pins).offered = s.offered := rfl

@[simp] theorem State.setSwIn_params (pins : List Word) : (s.setSwIn pins).params = s.params := rfl
@[simp] theorem State.setSwIn_value (pins : List Word) : (s.setSwIn pins).value = s.value := rfl
@[simp] theorem State.setSwIn_max (pins : List Word) : (s.setSwIn pins).max = s.max := rfl
@[simp] theorem State.setSwIn_prev (pins : List Word) : (s.setSwIn pins).prev = s.prev := rfl
@[simp] theorem State.setSwIn_term (pins : List Word) : (s.setSwIn pins).term = s.term := rfl
@[simp] theorem State.setSwIn_phase (pins : List Word) : (s.setSwIn pins).phase = s.phase := rfl
@[simp] theorem State.setSwIn_leds (pins : List Word) : (s.setSwIn pins).leds = s.leds := rfl
@[simp] theorem State.setSwIn_mapping (pins : List Word) : (s.setSwIn pins).mapping = s.mapping := rfl
@[simp] theorem State.setSwIn_btnIn (pins : List Word) : (s.setSwIn pins).btnIn = s.btnIn := rfl
@[simp] theorem State.setSwIn_swIn (pins : List Word) : (s.setSwIn pins).swIn = pins := rfl
@[simp] theorem State.setSwIn_draws (pins : List Word) : (s.setSwIn pins).draws = s.draws := rfl
@[simp] theorem State.setSwIn_bus (pins : List Word) : (s.setSwIn pins).bus = s.bus := rfl
@[simp] theorem State.setSwIn_result (pins : List Word) : (s.setSwIn pins).result = s.result := rfl
@[simp] theorem State.setSwIn_offered (pins : List Word) : (s.setSwIn pins).offered = s.offered := rfl

@[simp] theorem State.countDraw_params : (s.countDraw).params = s.params := rfl
@[simp] theorem State.countDraw_value : (s.countDraw).value = s.value := rfl
@[simp] theorem State.countDraw_max : (s.countDraw).max = s.max := rfl
@[simp] theorem State.countDraw_prev : (s.countDraw).prev = s.prev := rfl
@[simp] theorem State.countDraw_term : (s.countDraw).term = s.term := rfl
@[simp] theorem State.countDraw_phase : (s.countDraw).phase = s.phase := rfl
@[simp] theorem State.countDraw_leds : (s.countDraw).leds = s.leds := rfl
@[simp] theorem State.countDraw_mapping : (s.countDraw).mapping = s.mapping := rfl
@[simp] theorem State.countDraw_btnIn : (s.countDraw).btnIn = s.btnIn := rfl
@[simp] theorem State.countDraw_swIn : (s.countDraw).swIn = s.swIn := rfl
@[simp] theorem State.countDraw_draws : (s.countDraw).draws = s.draws + 1 := rfl
@[simp] theorem State.countDraw_bus : (s.countDraw).bus = s.bus := rfl
@[simp] theorem State.countDraw_result : (s.countDraw).result = s.result := rfl
@[simp] theorem State.countDraw_offered : (s.countDraw).offered = s.offered := rfl

@[simp] theorem State.logBus_params (a : BusAccess) : (s.logBus a).params = s.params := rfl
@[simp] theorem State.logBus_value (a : BusAccess) : (s.logBus a).value = s.value := rfl
@[simp] theorem State.logBus_max (a : BusAccess) : (s.logBus a).max = s.max := rfl
@[simp] theorem State.logBus_prev (a : BusAccess) : (s.logBus a).prev = s.prev := rfl
@[simp] theorem State.logBus_term (a : BusAccess) : (s.logBus a).term = s.term := rfl
@[simp] theorem State.logBus_phase (a : BusAccess) : (s.logBus a).phase = s.phase := rfl
@[simp] theorem State.logBus_leds (a : BusAccess) : (s.logBus a).leds = s.leds := rfl
@[simp] theorem State.logBus_mapping (a : BusAccess) : (s.logBus a).mapping = s.mapping := rfl
@[simp] theorem State.logBus_btnIn (a : BusAccess) : (s.logBus a).btnIn = s.btnIn := rfl
@[simp] theorem State.logBus_swIn (a : BusAccess) : (s.logBus a).swIn = s.swIn := rfl
@[simp] theorem State.logBus_draws (a : BusAccess) : (s.logBus a).draws = s.draws := rfl
@[simp] theorem State.logBus_bus (a : BusAccess) : (s.logBus a).bus = s.bus ++ [a] := rfl
@[simp] theorem State.logBus_result (a : BusAccess) : (s.logBus a).result = s.result := rfl
@[simp] theorem State.logBus_offered (a : BusAccess) : (s.logBus a).offered = s.offered := rfl

@[simp] theorem State.setResult_params (r : Result) : (s.setResult r).params = s.params := rfl
@[simp] theorem State.setResult_value (r : Result) : (s.setResult r).value = s.value := rfl
@[simp] theorem State.setResult_max (r : Result) : (s.setResult r).max = s.max := rfl
@[simp] theorem State.setResult_prev (r : Result) : (s.setResult r).prev = s.prev := rfl
@[simp] theorem State.setResult_term (r : Result) : (s.setResult r).term = s.term := rfl
@[simp] theorem State.setResult_phase (r : Result) : (s.setResult r).phase = s.phase := rfl
@[simp] theorem State.setResult_leds (r : Result) : (s.setResult r).leds = s.leds := rfl
@[simp] theorem State.setResult_mapping (r : Result) : (s.setResult r).mapping = s.mapping := rfl
@[simp] theorem State.setResult_btnIn (r : Result) : (s.setResult r).btnIn = s.btnIn := rfl
@[simp] theorem State.setResult_swIn (r : Result) : (s.setResult r).swIn = s.swIn := rfl
@[simp] theorem State.setResult_draws (r : Result) : (s.setResult r).draws = s.draws := rfl
@[simp] theorem State.setResult_bus (r : Result) : (s.setResult r).bus = s.bus := rfl
@[simp] theorem State.setResult_result (r : Result) : (s.setResult r).result = r := rfl
@[simp] theorem State.setResult_offered (r : Result) : (s.setResult r).offered = s.offered := rfl

@[simp] theorem State.setOffered_params (cs : List Command) : (s.setOffered cs).params = s.params := rfl
@[simp] theorem State.setOffered_value (cs : List Command) : (s.setOffered cs).value = s.value := rfl
@[simp] theorem State.setOffered_max (cs : List Command) : (s.setOffered cs).max = s.max := rfl
@[simp] theorem State.setOffered_prev (cs : List Command) : (s.setOffered cs).prev = s.prev := rfl
@[simp] theorem State.setOffered_term (cs : List Command) : (s.setOffered cs).term = s.term := rfl
@[simp] theorem State.setOffered_phase (cs : List Command) : (s.setOffered cs).phase = s.phase := rfl
@[simp] theorem State.setOffered_leds (cs : List Command) : (s.setOffered cs).leds = s.leds := rfl
@[simp] theorem State.setOffered_mapping (cs : List Command) : (s.setOffered cs).mapping = s.mapping := rfl
@[simp] theorem State.setOffered_btnIn (cs : List Command) : (s.setOffered cs).btnIn = s.btnIn := rfl
@[simp] theorem State.setOffered_swIn (cs : List Command) : (s.setOffered cs).swIn = s.swIn := rfl
@[simp] theorem State.setOffered_draws (cs : List Command) : (s.setOffered cs).draws = s.draws := rfl
@[simp] theorem State.setOffered_bus (cs : List Command) : (s.setOffered cs).bus = s.bus := rfl
@[simp] theorem State.setOffered_result (cs : List Command) : (s.setOffered cs).result = s.result := rfl
@[simp] theorem State.setOffered_offered (cs : List Command) : (s.setOffered cs).offered = cs := rfl

end Sys2Proof.Machine
end

