-- ==== Sys2Proof/Laws/Ops.lean ====
section
/-! SUPPORT. Once for each shared operation, everything it can do. -/

namespace Sys2Proof.Machine

/-! ## Sampling -/

/-- A button sample changes only the pins to come or the count of free draws. -/
theorem passButtons_eq (s : State) : passButtons s =
    { s with btnIn := s.btnIn.tail, draws := if s.btnIn = [] then s.draws + 1 else s.draws } := by
  unfold passButtons
  cases h : s.btnIn with
  | nil => simp [State.countDraw, h]
  | cons b later => simp [State.setBtnIn]

/-- A switch sample changes only the pins to come or the count of free draws. -/
theorem passSwitches_eq (s : State) : passSwitches s =
    { s with swIn := s.swIn.tail, draws := if s.swIn = [] then s.draws + 1 else s.draws } := by
  unfold passSwitches
  cases h : s.swIn with
  | nil => simp [State.countDraw, h]
  | cons w later => simp [State.setSwIn]

theorem sampleSwitches_lt (s : State) : (sampleSwitches s).toNat < 2 ^ s.params.switchCount := by
  rw [sampleSwitches, lowBits_toNat]
  exact Nat.mod_lt _ (Nat.pow_pos (by decide))

theorem buttonsWord_lt (s : State) : (buttonsWord s).toNat < 16 := by
  rw [buttonsWord, zextButtons_toNat]
  exact (sampleButtons s).isLt

/-! ## Accesses -/

/-- A read of `BUTTONS` changes no state of the block (rule R83). -/
theorem issueReadButtons_eq (s : State) : issueReadButtons s =
    { s with
      btnIn := s.btnIn.tail
      draws := if s.btnIn = [] then s.draws + 1 else s.draws
      bus := s.bus ++ [⟨false, s.params.offButtons, buttonsWord s⟩] } := by
  rw [issueReadButtons, passButtons_eq]
  rfl

/-- A read of `SWITCHES` changes no state of the block (rule R82). -/
theorem issueReadSwitches_eq (s : State) : issueReadSwitches s =
    { s with
      swIn := s.swIn.tail
      draws := if s.swIn = [] then s.draws + 1 else s.draws
      bus := s.bus ++ [⟨false, s.params.offSwitches, switchesWord s⟩] } := by
  rw [issueReadSwitches, passSwitches_eq]
  rfl

/-- What `MemRead` can do: a read of one of the two input registers, or a refusal. -/
theorem memRead_ok {off n : Nat} {s t : State} {w : Word} (h : memRead off n s = .ok (w, t)) :
    (off = s.params.offSwitches.toNat ∧ w = switchesWord s ∧ t = issueReadSwitches s) ∨
    (off = s.params.offButtons.toNat ∧ w = buttonsWord s ∧ t = issueReadButtons s) := by
  unfold memRead at h
  split at h
  · cases h
  split at h
  · cases h
  split at h
  · cases h; exact .inl ⟨‹_›, rfl, rfl⟩
  split at h
  · cases h; exact .inr ⟨‹_›, rfl, rfl⟩
  · cases h

/-- What `MemWrite` can do: a write of `LEDS`, or a refusal. -/
theorem memWrite_ok {off n : Nat} {v : Word} {s t : State} (h : memWrite off n v s = .ok t) :
    off = s.params.offLeds.toNat ∧ t = writeLeds v s := by
  unfold memWrite at h
  split at h
  · cases h
  split at h
  · cases h
  split at h
  · cases h; exact ⟨‹_›, rfl⟩
  · cases h

/-- At any other offset than an input register's a word read is refused (rules R44, R48, R49). -/
theorem memRead_undescribed {off : Nat} {s : State} (hs : off ≠ s.params.offSwitches.toNat)
    (hb : off ≠ s.params.offButtons.toNat) :
    memRead off 4 s = .error (undescribedAccess s.params false off) := by
  simp [memRead, hs, hb]

/-- At any other offset than `OFF_LEDS` a word write is refused (rules R45, R48, R49). -/
theorem memWrite_undescribed {off : Nat} {s : State} (v : Word) (hl : off ≠ s.params.offLeds.toNat) :
    memWrite off 4 v s = .error (undescribedAccess s.params true off) := by
  simp [memWrite, hl]

/-! ## The actions and the iteration -/

/-- The `Multiple` action (rule R122). -/
theorem multipleAction_eq (s : State) : multipleAction s =
    { s with
      value := wrapCount s.max (switchesWord s)
      term := termAfter s.term (switchesWord s)
      swIn := s.swIn.tail
      draws := if s.swIn = [] then s.draws + 1 else s.draws
      bus := s.bus ++ [⟨false, s.params.offSwitches, switchesWord s⟩] } := by
  simp only [multipleAction, issueReadSwitches_eq]
  rfl

/-- What an action leaves alone, and that only `Multiple` touches the flag, the pins and the bus. -/
theorem runEvent_frame (cur : ButtonEvent) (s : State) :
    (runEvent cur s).params = s.params ∧ (runEvent cur s).max = s.max ∧
    (runEvent cur s).prev = s.prev ∧ (runEvent cur s).phase = s.phase ∧
    (runEvent cur s).leds = s.leds ∧ (runEvent cur s).mapping = s.mapping ∧
    (runEvent cur s).btnIn = s.btnIn ∧ (runEvent cur s).result = s.result ∧
    (runEvent cur s).offered = s.offered ∧
    (cur ≠ .multiple → (runEvent cur s).term = s.term ∧ (runEvent cur s).swIn = s.swIn ∧
      (runEvent cur s).draws = s.draws ∧ (runEvent cur s).bus = s.bus) := by
  cases cur
  case multiple => simp [runEvent, multipleAction_eq]
  all_goals simp [runEvent, incCounter, decCounter, applyCounter]

/-- Every action keeps the counter in range (rules R35, R99). -/
theorem runEvent_inRange (cur : ButtonEvent) {s : State} (h : s.value ≤ s.max) :
    (runEvent cur s).value ≤ s.max := by
  cases cur
  case none => exact h
  case button0 => exact incremented_le h
  case button1 => exact decremented_le h
  case button2 => exact wrapCount_le _ _
  case button3 => exact wrapCount_le _ _
  case multiple => rw [runEvent, multipleAction_eq]; exact wrapCount_le _ _

/-- The end of a non-skipped iteration (rules R123, R124, R126). -/
theorem finishIteration_eq (cur : ButtonEvent) (s : State) : finishIteration cur s =
    { s with
      leds := s.value
      prev := cur
      phase := if s.term then .halt else .sleep
      bus := s.bus ++ [⟨true, s.params.offLeds, s.value⟩] } := rfl

/-- An iteration does one of two things: the skip of rule R125, or the dispatch of its event and the tail. -/
theorem iterateOnce_cases (s : State) :
    (gateSkips s.prev (polledEvent s) = true ∧
      iterateOnce s = { issueReadButtons s with phase := .sleep }) ∨
    (gateSkips s.prev (polledEvent s) = false ∧
      iterateOnce s =
        finishIteration (polledEvent s) (runEvent (polledEvent s) (issueReadButtons s))) := by
  unfold iterateOnce
  cases h : gateSkips s.prev (polledEvent s)
  · exact .inr ⟨rfl, by simp [h]⟩
  · exact .inl ⟨rfl, by simp [h, State.setPhase]⟩

/-- A block without a valid mapping does nothing, whatever is offered to it. -/
theorem step_held {s : State} (h : s.mapping ≠ .valid) : step s = .next s := by
  simp [step, heldInReset, h]

/-- A step that takes an offered command: `exec` of what it decodes to, or the refusal of what it does not. -/
theorem step_offered {s : State} {c : Command} {later : List Command} (hm : s.mapping = .valid)
    (ho : s.offered = c :: later) : step s =
    match decode s.params c with
    | .ok i => exec i { s with offered := later }
    | .error reason => .refused (commandRefusal s.params reason) := by
  have hheld : heldInReset s = false := by simp [heldInReset, hm]
  rw [step, hheld, nextOperation]
  simp only [ho]
  cases decode s.params c <;> simp [Except.map, State.setOffered]

/-- What a step of the block running alone is, phase by phase. -/
theorem step_alone {s : State} (h : BlockAlone s) : step s =
    match s.phase with
    | .iter => .next (iterateOnce s)
    | .sleep => .next { s with phase := .iter }
    | .halt => .next s := by
  obtain ⟨hm, ho⟩ := h
  have hheld : heldInReset s = false := by simp [heldInReset, hm]
  rw [step, hheld, nextOperation]
  simp only [ho]
  cases hp : s.phase <;> simp [sequencerOp, exec, execIterate, execSleep, execHalt, hp, ho, wake, State.setPhase]

/-- A run of `k + m` steps is a run of `k` and then one of `m`. -/
theorem runSteps_add (k m : Nat) {s t : State} (h : runSteps k s = .next t) :
    runSteps (k + m) s = runSteps m t := by
  induction k generalizing s with
  | zero => cases h; rw [Nat.zero_add]
  | succ k ih =>
    rw [Nat.succ_add]
    simp only [runSteps] at h ⊢
    cases hs : step s <;> rw [hs] at h
    · exact ih h
    · cases h
    · cases h

end Sys2Proof.Machine
end

