-- ==== Sys2Proof/Laws/PerInstr.lean ====
section
/-! SUPPORT. The family `Encoding`: the code of every operation fits its format (rule R61: `BTN` 32 bits, `BUS` 16,
`CNT` and `SEQ` 3; the model's own `gen` codes are below 5). -/

namespace Sys2Proof.Laws.Encoding

/-- The number of codes of a format. -/
def codes : Format → Nat
  | .btn => 2 ^ 32
  | .bus => 2 ^ 16
  | .cnt => 2 ^ 3
  | .seq => 2 ^ 3
  | .gen => 5

/-- The code of the operation's command is one of its format's. -/
def Statement (i : Instr) : Prop := ∀ p : Params, (encode p i).code.toNat < codes (encode p i).fmt

theorem evNone : Statement .evNone := fun _ => by simp [encode, codes]
theorem evBtn0 : Statement .evBtn0 := fun _ => by simp [encode, codes]
theorem evBtn1 : Statement .evBtn1 := fun _ => by simp [encode, codes]
theorem evBtn2 : Statement .evBtn2 := fun _ => by simp [encode, codes]
theorem evBtn3 : Statement .evBtn3 := fun _ => by simp [encode, codes]
theorem evMulti (w : Word) : Statement (.evMulti w) := fun _ => w.isLt
theorem rdButtons : Statement .rdButtons := fun _ => busCode_lt _ _
theorem rdSwitches : Statement .rdSwitches := fun _ => busCode_lt _ _
theorem wrLeds (r : Word) : Statement (.wrLeds r) := fun _ => busCode_lt _ _
theorem access (we : Bool) (off : Offset) : Statement (.access we off) := fun _ => by simp [encode, codes]
theorem hold : Statement .hold := fun _ => by simp [encode, codes]
theorem inc : Statement .inc := fun _ => by simp [encode, codes]
theorem dec : Statement .dec := fun _ => by simp [encode, codes]
theorem shr : Statement .shr := fun _ => by simp [encode, codes]
theorem shl : Statement .shl := fun _ => by simp [encode, codes]
theorem load (swv : Word) : Statement (.load swv) := fun _ => by simp [encode, codes]
theorem apply (f : Transform) : Statement (.apply f) := fun _ => by simp [encode, codes]
theorem poll : Statement .poll := fun _ => by simp [encode, codes]
theorem gate (cur : ButtonEvent) : Statement (.gate cur) := fun _ => by simp [encode, codes]
theorem dispatch (cur : ButtonEvent) : Statement (.dispatch cur) := fun _ => by simp [encode, codes]
theorem ledUpdate : Statement .ledUpdate := fun _ => by simp [encode, codes]
theorem prevUpdate (cur : ButtonEvent) : Statement (.prevUpdate cur) := fun _ => by simp [encode, codes]
theorem sleep : Statement .sleep := fun _ => by simp [encode, codes]
theorem halt : Statement .halt := fun _ => by simp [encode, codes]
theorem decode (w : Word) : Statement (.decode w) := fun _ => by simp [encode, codes]
theorem toReg : Statement .toReg := fun _ => by simp [encode, codes]
theorem iterate : Statement .iterate := fun _ => by simp [encode, codes]

end Sys2Proof.Laws.Encoding
end

