-- ==== Sys2Proof/Tests/Slice0.lean ====
section
/-! SUPPORT. Tests: the ill-formed operations WellFormed refuses, every operation's decoding from a word written out from
30_encoding.md, single operations and single steps from the vectors of 95_test_vectors.md (their numbers stand beside
them), and for each statement with hypotheses a state and operands that meet them. -/

namespace Sys2Proof.Tests

open Sys2Proof Machine

/-! ## A bench: four LEDs, ten switches, the suggested offsets of rule R7 -/

abbrev benchParams : Params where
  base := 0xFF200000
  span := 0x5000
  offSwitches := 0x40
  offButtons := 0x50
  offLeds := 0x00
  ledCount := 4
  switchCount := 10
  counterInit := 9
  evHighSingle := .button2
  refreshPeriod := 1
  exitFailStatus := 1

/-- A released block about to poll, with counter `value` and previous event `prev`. -/
abbrev bench (value : Count) (prev : ButtonEvent) : State :=
  { State.resetWith benchParams 0xFFFFFFFF with value := value, prev := prev }

/-- The same with the pins of the next poll (and switch read). -/
abbrev polling (value : Count) (prev : ButtonEvent) (btn : BitVec 4) (sw : Word) : State :=
  { bench value prev with btnIn := [btn], swIn := [sw] }

/-- The next state, if there is one. -/
def after (o : Host.Outcome State Fault Refusal) : Option State :=
  match o with
  | .next s => some s
  | .fault _ => none
  | .refused _ => none

/-- `(value, prev, term, phase, LEDS)`, the notation of 95_test_vectors.md. -/
abbrev five (o : Host.Outcome State Fault Refusal) : Option (Count × ButtonEvent × Bool × Phase × Word) :=
  (after o).map fun s => (s.value, s.prev, s.term, s.phase, s.leds)

abbrev valueAfter (i : Instr) (s : State) : Option Count := (after (exec i s)).map (·.value)
abbrev resultAfter (i : Instr) (s : State) : Option Result := (after (exec i s)).map (·.result)

/-- The refusal of a stop, if it is one. -/
def refusalOf (o : Host.Outcome State Fault Refusal) : Option Refusal :=
  match o with
  | .next _ => none
  | .fault _ => none
  | .refused r => some r

/-- The operation decoded, if there is one. -/
def decoded (c : Command) : Option Instr :=
  match decode benchParams c with
  | .ok i => some i
  | .error _ => none

theorem test_benchParams_wf : benchParams.Wf := by decide

/-! ## WellFormed (rules R105, R122) -/

theorem test_wf_refuses_evMulti_without_bits : Instr.wellFormed (.evMulti 0x0) = false := by decide
theorem test_wf_refuses_evMulti_of_one_button : Instr.wellFormed (.evMulti 0x8) = false := by decide
theorem test_wf_refuses_evMulti_of_a_lone_high_bit : Instr.wellFormed (.evMulti 0x80000000) = false := by decide
theorem test_wf_accepts_a_chord : Instr.wellFormed (.evMulti 0x30) = true := by decide

/-! ## Decoding: every operation from a word written out from rules R62 and R65 to R68 (format `gen`: log entry 6) -/

theorem test_decode_evNone : decoded ⟨.btn, 0b0000, []⟩ = some .evNone := by decide
theorem test_decode_evBtn0 : decoded ⟨.btn, 0b0001, []⟩ = some .evBtn0 := by decide
theorem test_decode_evBtn1 : decoded ⟨.btn, 0b0010, []⟩ = some .evBtn1 := by decide
theorem test_decode_evBtn2 : decoded ⟨.btn, 0b0100, []⟩ = some .evBtn2 := by decide
theorem test_decode_evBtn3 : decoded ⟨.btn, 0b1000, []⟩ = some .evBtn3 := by decide
theorem test_decode_evMulti : decoded ⟨.btn, 0b0110, []⟩ = some (.evMulti 0b0110) := by decide
theorem test_decode_rdButtons : decoded ⟨.bus, 0b0000000001010000, []⟩ = some .rdButtons := by decide
theorem test_decode_rdSwitches : decoded ⟨.bus, 0b0000000001000000, []⟩ = some .rdSwitches := by decide
theorem test_decode_wrLeds : decoded ⟨.bus, 0b1000000000000000, [0xA]⟩ = some (.wrLeds 0xA) := by decide
theorem test_decode_access : decoded ⟨.gen, 0, [0b0100111111111100]⟩ = some (.access false 0x4FFC) := by decide
theorem test_decode_access_of_a_register :
    decoded ⟨.gen, 0, [0b1000000000000000]⟩ = some (.access true 0x0) := by decide
theorem test_decode_hold : decoded ⟨.cnt, 0b000, []⟩ = some .hold := by decide
theorem test_decode_inc : decoded ⟨.cnt, 0b001, []⟩ = some .inc := by decide
theorem test_decode_dec : decoded ⟨.cnt, 0b010, []⟩ = some .dec := by decide
theorem test_decode_shr : decoded ⟨.cnt, 0b011, []⟩ = some .shr := by decide
theorem test_decode_shl : decoded ⟨.cnt, 0b100, []⟩ = some .shl := by decide
theorem test_decode_load : decoded ⟨.cnt, 0b101, [0x2AB]⟩ = some (.load 0x2AB) := by decide
theorem test_decode_apply_load : decoded ⟨.gen, 1, [0b101, 7]⟩ = some (.apply (.load 7)) := by decide
theorem test_decode_apply_table : decoded ⟨.gen, 1, [0, 5, 9, 19]⟩ = some (.apply (.table [(9, 19)] 5)) := by
  decide
theorem test_decode_poll : decoded ⟨.seq, 1, []⟩ = some .poll := by decide
theorem test_decode_gate : decoded ⟨.seq, 2, [0b101]⟩ = some (.gate .multiple) := by decide
theorem test_decode_dispatch : decoded ⟨.seq, 3, [0b011]⟩ = some (.dispatch .button2) := by decide
theorem test_decode_ledUpdate : decoded ⟨.seq, 4, []⟩ = some .ledUpdate := by decide
theorem test_decode_prevUpdate : decoded ⟨.seq, 5, [0b100]⟩ = some (.prevUpdate .button3) := by decide
theorem test_decode_sleep : decoded ⟨.seq, 6, []⟩ = some .sleep := by decide
theorem test_decode_halt : decoded ⟨.seq, 7, []⟩ = some .halt := by decide
theorem test_decode_decode : decoded ⟨.gen, 2, [0x11]⟩ = some (.decode 0x11) := by decide
theorem test_decode_toReg : decoded ⟨.gen, 3, []⟩ = some .toReg := by decide
theorem test_decode_iterate : decoded ⟨.gen, 4, []⟩ = some .iterate := by decide
theorem test_decode_rejects_unused_codes :
    decoded ⟨.cnt, 0b110, []⟩ = none ∧ decoded ⟨.seq, 0, []⟩ = none ∧ decoded ⟨.seq, 2, [0b110]⟩ = none ∧
    decoded ⟨.bus, 0x10000, []⟩ = none ∧ decoded ⟨.bus, 0b0100111111111100, []⟩ = none := by decide
theorem test_decode_rejects_wrong_operands :
    decoded ⟨.bus, 0b1000000000000000, []⟩ = none ∧ decoded ⟨.cnt, 0b001, [0]⟩ = none ∧
    decoded ⟨.btn, 0b0001, [0]⟩ = none := by decide
/-- Rows of opcode_table.json as numbers (log entry 7). -/
theorem test_decodeTableWord :
    decodeTableWord 32 0x8 = some .evBtn3 ∧ decodeTableWord 32 0xF = some (.evMulti 0xF) ∧
    decodeTableWord 8 0x2 = some .dec ∧ decodeTableWord 8 0x6 = some .sleep := by decide

/-! ## Register access (vectors A1 to A11) -/

/-- A3: bits 31:4 are 0. -/
theorem test_rdButtons_all_pressed :
    resultAfter .rdButtons (polling 5 .none 0b1111 0) = some (.register 0x0000000F) := by decide
/-- A4, with an eleventh switch line that does not exist. -/
theorem test_rdSwitches_ten_lines :
    resultAfter .rdSwitches (polling 5 .none 0 0xFFF) = some (.register 0x3FF) := by decide
/-- A6: `LEDS = 0xA`, `led_out = 0b1010`; the bits above stay in the register. -/
theorem test_wrLeds_drives_four_lines :
    (after (exec (.wrLeds 0xA) (bench 5 .none))).map (fun s => (s.leds, s.ledOut)) = some (0xA, 0b1010) ∧
    (after (exec (.wrLeds 0x1A) (bench 5 .none))).map (fun s => (s.leds, s.ledOut)) = some (0x1A, 0b1010) := by
  decide
/-- A8. -/
theorem test_access_last_word :
    resultAfter (.access false 0x4FFC) (bench 5 .none) = some (.location false 0xFF204FFC) := by decide
/-- A9. -/
theorem test_access_past_the_span :
    refusalOf (exec (.access false 0x4FFD) (bench 5 .none)) = some (.preconditionViolation 0x4FFD) ∧
    refusalOf (exec (.access true 0x5000) (bench 5 .none)) = some (.preconditionViolation 0x5000) := by decide

/-- Whether a read is refused. -/
def readRefused (off n : Nat) : Bool :=
  match memRead off n (bench 5 .none) with
  | .ok _ => false
  | .error _ => true

/-- Whether a write is refused. -/
def writeRefused (off n : Nat) : Bool :=
  match memWrite off n 1 (bench 5 .none) with
  | .ok _ => false
  | .error _ => true

/-- A8 and A10. -/
theorem test_undescribed_accesses_refused :
    readRefused 0x4FFC 4 = true ∧ writeRefused 0x4FFC 4 = true ∧ readRefused 0x00 4 = true ∧
    writeRefused 0x50 4 = true ∧ readRefused 0x40 1 = true ∧ readRefused 0x41 4 = true ∧
    readRefused 0x40 4 = false ∧ readRefused 0x50 4 = false ∧ writeRefused 0x00 4 = false := by decide

/-- The refusal of a step that takes the command. -/
abbrev offeredRefusal (c : Command) : Option Refusal := refusalOf (step { bench 5 .none with offered := [c] })

/-- Rules R47 to R49 and R71: a read of `LEDS`, of no register, of a misaligned and of an out-of-window offset, and a write
of `BUTTONS`, as `BUS` commands. -/
theorem test_step_refuses_undescribed_bus_commands :
    offeredRefusal ⟨.bus, 0x0000, []⟩ = some .readOfLeds ∧
    offeredRefusal ⟨.bus, 0x4FFC, []⟩ = some (.unmappedOffset 0x4FFC) ∧
    offeredRefusal ⟨.bus, 0x0041, []⟩ = some (.unmappedOffset 0x41) ∧
    offeredRefusal ⟨.bus, 0x5000, []⟩ = some (.preconditionViolation 0x5000) ∧
    offeredRefusal ⟨.bus, 0x8050, [1]⟩ = some (.writeOfReadOnly 0x50) := by decide

/-! ## Wrapped counter (vectors K1 to K24 and the general counter with `max = 9`) -/

/-- K3, K2. -/
theorem test_inc_wraps :
    valueAfter .inc (bench 15 .none) = some 0 ∧ resultAfter .inc (bench 14 .none) = some (.count 15) := by decide
/-- K6, and the general counter: 9, not the 5 of the wrong reading of C5. -/
theorem test_dec_wraps :
    valueAfter .dec (bench 0 .none) = some 15 ∧ valueAfter .dec { bench 0 .none with max := 9 } = some 9 := by decide
/-- K7, K8. -/
theorem test_shr : valueAfter .shr (bench 15 .none) = some 7 ∧ valueAfter .shr (bench 1 .none) = some 0 := by decide
/-- K15, K16, and `18 mod 10` of the general counter. -/
theorem test_shl :
    valueAfter .shl (bench 15 .none) = some 14 ∧ valueAfter .shl (bench 11 .none) = some 6 ∧
    valueAfter .shl { bench 9 .none with max := 9 } = some 8 := by decide
/-- K19, K20: a non-zero word that loads 0 does not terminate. -/
theorem test_load :
    valueAfter (.load 0x3FF) (bench 3 .none) = some 15 ∧
    (after (exec (.load 0x10) (bench 3 .none))).map (fun s => (s.value, s.term)) = some (0, false) := by decide
/-- K22, K23. -/
theorem test_apply :
    valueAfter (.apply (.table [(9, 19)] 0)) (bench 9 .none) = some 3 ∧
    valueAfter (.apply (.table [] 0xFFFFFFF0)) (bench 9 .none) = some 0 := by decide
/-- K24. -/
theorem test_toReg :
    resultAfter .toReg (bench 15 .none) = some (.register 0xF) ∧ valueAfter .toReg (bench 15 .none) = some 15 := by
  decide
theorem test_hold : after (exec .hold (bench 7 .button0)) = some (bench 7 .button0) := by decide

/-! ## Input decoder (vectors V1 to V21) -/

/-- V17, V18, V19. -/
theorem test_decode_counts_all_bits :
    resultAfter (.decode 0x30) (bench 0 .none) = some (.event .multiple) ∧
    resultAfter (.decode 0x11) (bench 0 .none) = some (.event .multiple) ∧
    resultAfter (.decode 0xFFFFFFFF) (bench 0 .none) = some (.event .multiple) := by decide
/-- V3, V4, and V21: the parameter (`Button2` on this bench). -/
theorem test_decode_positions :
    resultAfter (.decode 0x2) (bench 0 .none) = some (.event .button1) ∧
    resultAfter (.decode 0x4) (bench 0 .none) = some (.event .button2) ∧
    resultAfter (.decode 0x80000000) (bench 0 .none) = some (.event .button2) := by decide

/-! ## Dispatch actions and sequencer steps (43_control_fsm.md's examples) -/

theorem test_evNone : after (exec .evNone (bench 0 .button0)) = some (bench 0 .button0) := by decide
theorem test_evBtn0 : valueAfter .evBtn0 (bench 15 .none) = some 0 := by decide
theorem test_evBtn1 : valueAfter .evBtn1 (bench 0 .none) = some 15 := by decide
theorem test_evBtn2 : valueAfter .evBtn2 (bench 6 .none) = some 3 := by decide
theorem test_evBtn3 : valueAfter .evBtn3 (bench 11 .none) = some 6 := by decide
/-- The action is step 3 alone: `prev`, `phase` and `LEDS` are steps 4 and 5's. -/
theorem test_evMulti :
    five (exec (.evMulti 0x3) (polling 6 .none 0x3 0xA)) = some (10, .none, false, .iter, 0xFFFFFFFF) ∧
    five (exec (.evMulti 0x3) (polling 6 .none 0x3 0)) = some (0, .none, true, .iter, 0xFFFFFFFF) := by decide
theorem test_poll : resultAfter .poll (polling 0 .none 0b0101 0) = some (.event .multiple) := by decide
theorem test_gate :
    resultAfter (.gate .button0) (bench 0 .multiple) = some (.skip true) ∧
    resultAfter (.gate .none) (bench 0 .multiple) = some (.skip false) ∧
    resultAfter (.gate .button1) (bench 0 .button0) = some (.skip false) := by decide
theorem test_dispatch : valueAfter (.dispatch .button2) (bench 13 .none) = some 6 := by decide
theorem test_ledUpdate :
    five (exec .ledUpdate (bench 15 .none)) = some (15, .none, false, .iter, 0x0000000F) := by decide
theorem test_prevUpdate :
    five (exec (.prevUpdate .multiple) (bench 15 .none)) = some (15, .multiple, false, .iter, 0xFFFFFFFF) := by decide
/-- F18. -/
theorem test_sleep :
    after (exec .sleep { bench 5 .button1 with phase := .sleep }) = some (bench 5 .button1) := by decide
/-- F19. -/
theorem test_halt :
    after (exec .halt { bench 0 .multiple with phase := .halt }) =
      some { bench 0 .multiple with phase := .halt } := by decide
/-- F6 and F9, as the composite. -/
theorem test_iterate :
    five (exec .iterate (polling 0 .none 0x2 0)) = some (15, .button1, false, .sleep, 0xF) ∧
    five (exec .iterate (polling 13 .none 0x8 0)) = some (10, .button3, false, .sleep, 0xA) := by decide
/-- Rule R131's table. -/
theorem test_gate_table :
    let events : List ButtonEvent := [.none, .button0, .button1, .button2, .button3, .multiple]
    (events.map fun prev => events.map fun cur => gateSkips prev cur) =
      [[true, false, false, false, false, false],
       [false, true, false, false, false, false],
       [false, false, true, false, false, false],
       [false, false, false, true, false, false],
       [false, false, false, false, true, false],
       [false, true, true, true, true, true]] := by decide

/-! ## Single steps of the block (vectors F1 to F19) -/

/-- F3: a held button is skipped, and `LEDS` is not written. -/
theorem test_step_F3 :
    five (step (polling 6 .button0 0x1 0)) = some (6, .button0, false, .sleep, 0xFFFFFFFF) := by decide
/-- F4: a release rewrites the unchanged counter. -/
theorem test_step_F4 : five (step (polling 6 .button0 0x0 0)) = some (6, .none, false, .sleep, 6) := by decide
/-- F10, with its bus trace. -/
theorem test_step_F10 :
    five (step (polling 13 .button3 0x9 0x6)) = some (6, .multiple, false, .sleep, 6) ∧
    (after (step (polling 13 .button3 0x9 0x6))).map (·.bus) =
      some [⟨false, 0x50, 0x9⟩, ⟨false, 0x40, 0x6⟩, ⟨true, 0x00, 0x6⟩] := by decide
/-- F13: a single button after a chord is suppressed. -/
theorem test_step_F13 :
    five (step (polling 6 .multiple 0x8 0)) = some (6, .multiple, false, .sleep, 0xFFFFFFFF) := by decide
/-- F15: the exit. -/
theorem test_step_F15 : five (step (polling 6 .none 0xF 0)) = some (0, .multiple, true, .halt, 0) := by decide
/-- F16: the counter loads 0 and the loop goes on. -/
theorem test_step_F16 : five (step (polling 6 .none 0x3 0x10)) = some (0, .multiple, false, .sleep, 0) := by decide
/-- F17: switches off under a held chord do nothing. -/
theorem test_step_F17 :
    five (step (polling 6 .multiple 0x3 0)) = some (6, .multiple, false, .sleep, 0xFFFFFFFF) := by decide
/-- A row placed by `withFetchWord` is the next step's operation: `EV_MULTI` polled, `EV_NONE` as a release, `INC` and
`SLEEP` offered. -/
theorem test_withFetchWord :
    (after (step ((bench 5 .none).withFetchWord 32 0x1))).map (·.value) = some 6 ∧
    (after (step ((bench 5 .none).withFetchWord 32 0x0))).map (·.prev) = some .none ∧
    (after (step ((bench 5 .none).withFetchWord 8 0x1))).map (·.value) = some 6 ∧
    (after (step ((bench 5 .none).withFetchWord 8 0x6))).map (·.phase) = some .iter := by decide

/-! ## Witnesses: states and operands that meet the statements' hypotheses -/

theorem witness_PinSamplesAreDraws :
    (polling 5 .none 3 7).btnIn = 3 :: [] ∧ (bench 5 .none).btnIn = [] ∧
    (polling 5 .none 3 7).swIn = 7 :: [] ∧ (bench 5 .none).swIn = [] := by decide

theorem witness_AccessesAreIdempotent :
    (∃ t, exec .rdButtons { bench 5 .none with btnIn := [3, 3] } = .next t) ∧
    ({ bench 5 .none with btnIn := [3, 3] } : State).btnIn = 3 :: 3 :: [] ∧
    (∃ t, exec .rdSwitches { bench 5 .none with swIn := [7, 7] } = .next t) ∧
    ({ bench 5 .none with swIn := [7, 7] } : State).swIn = 7 :: 7 :: [] := ⟨⟨_, rfl⟩, rfl, ⟨_, rfl⟩, rfl⟩

theorem witness_AccessYieldsTheLocation :
    (bench 5 .none).params.Wf ∧ (0x4FFC : Offset).toNat ≤ 0x4FFC ∧ 0x4FFD ≤ (0x4FFD : Offset).toNat ∧
    (0x40 : Offset) = (bench 5 .none).params.offSwitches := by decide

theorem witness_MemReadSelectsByOffset :
    (bench 5 .none).params.Wf ∧ 0x40 = (bench 5 .none).params.offSwitches.toNat ∧
    0x50 = (bench 5 .none).params.offButtons.toNat ∧
    0x00 ≠ (bench 5 .none).params.offSwitches.toNat ∧ 0x00 ≠ (bench 5 .none).params.offButtons.toNat := by decide

theorem witness_MemWriteSelectsByOffset :
    (bench 5 .none).params.Wf ∧ 0x00 = (bench 5 .none).params.offLeds.toNat ∧
    0x04 ≠ (bench 5 .none).params.offLeds.toNat := by decide

theorem witness_UndescribedAccessesAreRefused :
    (bench 5 .none).params.Wf ∧ (1 ≠ 4) ∧ 0x5000 < 0x4FFD + 4 ∧
    (0x4FFC + 4 ≤ 0x5000 ∧ 0x4FFC ≠ (bench 5 .none).params.offSwitches.toNat ∧
      0x4FFC ≠ (bench 5 .none).params.offButtons.toNat ∧ 0x4FFC ≠ (bench 5 .none).params.offLeds.toNat) ∧
    (0x4FFB % 4 ≠ 0 ∧ 0x4FFB + 4 ≤ 0x5000) := by decide

theorem witness_NamedAccessorsUseTheWindow : (bench 5 .none).params.Wf := test_benchParams_wf

theorem witness_counter_statements :
    (bench 15 .none).value ≤ (bench 15 .none).max ∧ (bench 0 .none).value ≤ (bench 0 .none).max ∧
    (({ bench 0 .none with max := 0 } : State).max = 0 ∧ ({ bench 0 .none with max := 0 } : State).value = 0) ∧
    (bench 15 .none).max.toNat < 2 ^ 31 ∧ (bench 15 .none).params.Wf ∧
    (bench 15 .none).max = (bench 15 .none).params.max := by decide

theorem witness_DecodeCountsTheBits :
    (∀ i, i < 32 → (0x0 : Word).getLsbD i = false) ∧
    (0 < 31 ∧ 31 < 32 ∧ (0x80000001 : Word).getLsbD 0 = true ∧ (0x80000001 : Word).getLsbD 31 = true) ∧
    (∀ i, i < 32 → (0x8 : Word).getLsbD i = decide (i = 3)) := by decide

theorem witness_LoneHighBitGivesTheParameter :
    (∀ i, i < 32 → (0x10 : Word).getLsbD i = decide (i = 4)) ∧
    (∀ i, i < 32 → (0x80000000 : Word).getLsbD i = decide (i = 31)) := by decide

theorem witness_DecodeDependsOnTheWordAlone :
    (bench 5 .none).params.evHighSingle = (bench 9 .multiple).params.evHighSingle := by decide

theorem witness_SleepWakesAndHaltStays :
    ({ bench 5 .none with phase := .sleep } : State).phase = .sleep ∧ (bench 5 .none).phase ≠ .sleep := by decide

/-- Both grounds of a skip: a chord being released, and no change. -/
theorem witness_SkippedIterationOnlyPolls :
    (polling 6 .multiple 0x8 0).phase = .iter ∧
    .button3 = pinsEvent benchParams (sampleButtons (polling 6 .multiple 0x8 0)) ∧
    ((polling 6 .multiple 0x8 0).prev = .multiple ∧ ButtonEvent.button3 ≠ .none) ∧
    .button0 = pinsEvent benchParams (sampleButtons (polling 6 .button0 0x1 0)) ∧
    .button0 = (polling 6 .button0 0x1 0).prev := by decide

/-- Each of the five events, `None` also out of a chord. -/
theorem witness_DispatchedIterationActs :
    (polling 6 .none 0x1 0).phase = .iter ∧
    (.none = pinsEvent benchParams (sampleButtons (polling 6 .multiple 0x0 0)) ∧
      .none ≠ (polling 6 .multiple 0x0 0).prev) ∧
    .button0 = pinsEvent benchParams (sampleButtons (polling 6 .none 0x1 0)) ∧
    .button1 = pinsEvent benchParams (sampleButtons (polling 6 .none 0x2 0)) ∧
    .button2 = pinsEvent benchParams (sampleButtons (polling 6 .none 0x4 0)) ∧
    .button3 = pinsEvent benchParams (sampleButtons (polling 6 .none 0x8 0)) ∧
    (polling 6 .none 0x1 0).prev ≠ .multiple ∧ (polling 6 .none 0x1 0).prev ≠ .button0 := by decide

/-- Switches off and on. -/
theorem witness_ChordIterationActs :
    (polling 6 .none 0x3 0).phase = .iter ∧
    pinsEvent benchParams (sampleButtons (polling 6 .none 0x3 0)) = .multiple ∧
    (polling 6 .none 0x3 0).prev ≠ .multiple ∧
    sampleSwitches (passButtons (polling 6 .none 0x3 0)) = 0 ∧
    sampleSwitches (passButtons (polling 6 .none 0x3 0x10)) ≠ 0 := by decide

theorem witness_ChordLoadsTheSwitches :
    sampleSwitches (polling 6 .none 0x3 0) = 0 ∧ sampleSwitches (polling 6 .none 0x3 1) ≠ 0 := by decide

theorem witness_IterateRestsOutsideIter : ({ bench 5 .none with phase := .halt } : State).phase ≠ .iter := by decide

/-- A step in each phase and each kind of iteration. -/
theorem witness_AccessOrderOfAStep :
    BlockAlone (polling 6 .none 0x3 0) ∧ (∃ t, step (polling 6 .none 0x3 0) = .next t) ∧
    gateSkips .none (pinsEvent benchParams 0x3) = false ∧ gateSkips .none (pinsEvent benchParams 0x1) = false ∧
    gateSkips .none (pinsEvent benchParams 0x0) = true ∧
    ({ bench 6 .none with phase := .sleep } : State).phase ≠ .iter := by
  refine ⟨by decide, ⟨_, rfl⟩, by decide, by decide, by decide, by decide⟩

theorem witness_ChordReleaseIsSuppressed :
    BlockAlone { bench 6 .multiple with btnIn := [3, 1, 0, 1] } ∧ (bench 6 .multiple).phase = .iter ∧
    (bench 6 .multiple).prev = .multiple ∧
    ({ bench 6 .multiple with btnIn := [3, 1, 0, 1] } : State).btnIn = [3, 1] ++ 0 :: [1] ∧
    (∀ b ∈ ([3, 1] : List (BitVec 4)), b ≠ 0) := by decide

theorem witness_HeldInputActsOnce :
    BlockAlone { bench 6 .button0 with btnIn := [1, 1, 0] } ∧ (bench 6 .button0).phase = .iter ∧
    ({ bench 6 .button0 with btnIn := [1, 1, 0] } : State).btnIn = [1, 1] ++ [0] ∧
    (∀ b ∈ ([1, 1] : List (BitVec 4)), pinsEvent benchParams b = .button0) := by decide

theorem witness_ExitExactlyOnChordEdge :
    BlockAlone (polling 6 .none 0xF 0) ∧ (polling 6 .none 0xF 0).phase = .iter ∧
    (polling 6 .none 0xF 0).term = false ∧ ∃ t, step (polling 6 .none 0xF 0) = .next t :=
  ⟨by decide, rfl, rfl, ⟨_, rfl⟩⟩

theorem witness_HaltIsForever :
    ({ bench 0 .multiple with phase := .halt } : State).offered = [] ∧
    ({ bench 0 .multiple with phase := .halt } : State).phase = .halt := by decide

theorem witness_LedsFollowTheCounter :
    BlockAlone { polling 6 .none 0x1 0 with leds := 6 } ∧
    (∃ t, step { polling 6 .none 0x1 0 with leds := 6 } = .next t) ∧
    ({ polling 6 .none 0x1 0 with leds := 6 } : State).leds = 6 ∧ (polling 6 .none 0x1 0).phase = .iter ∧
    gateSkips .none (pinsEvent benchParams (sampleButtons (polling 6 .none 0x1 0))) = false :=
  ⟨by decide, ⟨_, rfl⟩, rfl, rfl, by decide⟩

theorem witness_LedsAreNeverReadBack : ∃ t, step (polling 6 .none 0x1 0) = .next t := ⟨_, rfl⟩

/-- A held chord: the switches do not matter. -/
theorem witness_SwitchesMatterOnlyToChordEdges :
    BlockAlone (polling 6 .multiple 0x3 0) ∧
    ¬((polling 6 .multiple 0x3 0).phase = .iter ∧ (polling 6 .multiple 0x3 0).prev ≠ .multiple ∧
      pinsEvent benchParams (sampleButtons (polling 6 .multiple 0x3 0)) = .multiple) ∧
    ∃ t, step (polling 6 .multiple 0x3 0) = .next t := ⟨by decide, by decide, ⟨_, rfl⟩⟩

theorem witness_NothingStopsTheBlock : (bench 5 .none).offered = [] := by decide

theorem witness_OnlyTheirWritersWrite : ∃ t, exec .inc (bench 5 .none) = .next t := ⟨_, rfl⟩

theorem witness_StepKeepsTheInvariant :
    Inv (polling 6 .none 0xF 0) ∧ ∃ t, step (polling 6 .none 0xF 0) = .next t :=
  ⟨⟨by decide, by decide, by decide, fun _ => rfl, fun h => absurd h (by decide), fun h => absurd rfl h, rfl⟩,
    ⟨_, rfl⟩⟩

theorem witness_ResetMeetsTheInvariant : benchParams.Wf := test_benchParams_wf

/-- An offered command that decodes, one that does not, and none, in each phase. -/
theorem witness_StepRunsTheOperation :
    (bench 5 .none).mapping = .valid ∧
    ({ bench 5 .none with offered := [⟨.cnt, 1, []⟩] } : State).offered = ⟨.cnt, 1, []⟩ :: [] ∧
    (decoded ⟨.cnt, 1, []⟩ = some .inc) ∧ (decoded ⟨.cnt, 6, []⟩ = none) ∧ (bench 5 .none).offered = [] ∧
    (bench 5 .none).phase = .iter ∧ ({ bench 5 .none with phase := .sleep } : State).phase = .sleep := by decide

theorem witness_StepRunsThePolledAction :
    BlockAlone (polling 6 .none 0x1 0) ∧ (polling 6 .none 0x1 0).phase = .iter ∧
    decoded ⟨.btn, (sampleButtons (polling 6 .none 0x1 0)).zeroExtend 32, []⟩ = some .evBtn0 ∧
    gateSkips .none (pinsEvent benchParams (sampleButtons (polling 6 .none 0x1 0))) = false := by decide

theorem witness_DecodeReadsEveryEncoding : benchParams.Wf ∧ Instr.wellFormed (.evMulti 0x3) = true := by decide

theorem witness_WrittenOutWordsDecode :
    benchParams.offButtons = 0x50 ∧ benchParams.offSwitches = 0x40 ∧ benchParams.offLeds = 0x00 := by decide

/-- Each clause at its boundary. -/
theorem witness_UnusedCodesAreRejected :
    6 ≤ (6 : Word).toNat ∧ ((0 : Word) = 0 ∨ 8 ≤ (0 : Word).toNat) ∧ ((8 : Word) = 0 ∨ 8 ≤ (8 : Word).toNat) ∧
    2 ^ 16 ≤ (0x10000 : Word).toNat := by decide

theorem witness_HeldInResetUntilMapped :
    (unmappedBlock benchParams 0).mapping = .absent ∧ (bench 5 .none).mapping ≠ .absent := by decide

theorem witness_FinalizeOnceAfterTheLoop :
    (bench 5 .none).mapping = .valid ∧ ({ bench 0 .multiple with phase := .halt } : State).phase = .halt ∧
    (bench 5 .none).phase ≠ .halt ∧ (unmappedBlock benchParams 0).mapping = .absent ∧
    ({ bench 0 .multiple with mapping := .released } : State).mapping = .released := by decide

theorem witness_NothingRunsAfterFinalize :
    ({ bench 0 .multiple with mapping := .released } : State).mapping = .released := by decide

/-- Each clause at a boundary: the last word, a write of it, the first offset past it, a misaligned one, and the three
registers in their wrong direction. -/
theorem witness_UndescribedBusCommandsAreRefused :
    benchParams.Wf ∧ (bench 5 .none).mapping = .valid ∧
    ((0x4FFC : Word).toNat = (if false then 0x8000 else 0) + (0x4FFC : Offset).toNat ∧
      (0x4FFC : Offset) ≠ benchParams.offButtons ∧ (0x4FFC : Offset) ≠ benchParams.offSwitches) ∧
    ((0xCFFC : Word).toNat = (if true then 0x8000 else 0) + (0x4FFC : Offset).toNat ∧
      (0x4FFC : Offset) ≠ benchParams.offLeds) ∧
    0x5000 < (0x4FFD : Offset).toNat + 4 ∧
    ((0x4FFB : Offset).toNat % 4 ≠ 0 ∧ (0x4FFB : Offset).toNat + 4 ≤ 0x5000) ∧
    (0x0 : Offset) = benchParams.offLeds ∧ (0x40 : Offset) = benchParams.offSwitches ∧
    (0x50 : Offset) = benchParams.offButtons ∧
    ({ bench 5 .none with offered := [⟨.bus, 0x4FFC, []⟩] } : State).offered = ⟨.bus, 0x4FFC, []⟩ :: [] := by decide

end Sys2Proof.Tests
end

section
/-! The register bank: the facts about one access, and the statements about the accesses (20_memory.md). -/

namespace Sys2Proof.Machine

/-! ## What an access operation means -/

theorem exec_rdButtons (s : State) :
    exec .rdButtons s = .next ((issueReadButtons s).setResult (.register (buttonsWord s))) := rfl

theorem exec_rdSwitches (s : State) :
    exec .rdSwitches s = .next ((issueReadSwitches s).setResult (.register (switchesWord s))) := rfl

theorem exec_wrLeds (r : Word) (s : State) : exec (.wrLeds r) s = .next (writeLeds r s) := rfl

/-! ## The sample a read takes -/

@[simp] theorem passButtons_bus (s : State) : (passButtons s).bus = s.bus := by
  rw [passButtons_eq]

@[simp] theorem passSwitches_bus (s : State) : (passSwitches s).bus = s.bus := by
  rw [passSwitches_eq]

@[simp] theorem issueReadButtons_btnIn (s : State) : (issueReadButtons s).btnIn = s.btnIn.tail := by
  rw [issueReadButtons_eq]

@[simp] theorem issueReadSwitches_params (s : State) : (issueReadSwitches s).params = s.params := by
  rw [issueReadSwitches_eq]

@[simp] theorem issueReadSwitches_swIn (s : State) : (issueReadSwitches s).swIn = s.swIn.tail := by
  rw [issueReadSwitches_eq]

/-- Everything a read of `BUTTONS` does is its sample and its entry in the bus history. -/
theorem issueReadButtons_eq_passButtons (s : State) : issueReadButtons s =
    { passButtons s with
      bus := s.bus ++ [⟨false, s.params.offButtons, (sampleButtons s).zeroExtend 32⟩] } := by
  rw [← passButtons_bus s]
  rfl

/-- Everything a read of `SWITCHES` does is its sample and its entry in the bus history. -/
theorem issueReadSwitches_eq_passSwitches (s : State) : issueReadSwitches s =
    { passSwitches s with bus := s.bus ++ [⟨false, s.params.offSwitches, sampleSwitches s⟩] } := by
  rw [← passSwitches_bus s]
  rfl

theorem buttonsWord_of_btnIn_cons {s : State} {b : BitVec 4} {later : List (BitVec 4)}
    (h : s.btnIn = b :: later) : buttonsWord s = zextButtons b := by
  rw [buttonsWord, sampleButtons, h]

theorem switchesWord_of_swIn_cons {s : State} {w : Word} {later : List Word}
    (h : s.swIn = w :: later) : switchesWord s = lowBits s.params.switchCount w := by
  rw [switchesWord, sampleSwitches, h]

/-! ## Idempotence (rule R51) -/

/-- With the button pins unchanged the read after a read returns the same word. -/
theorem buttonsWord_after_read {s : State} {b : BitVec 4} {later : List (BitVec 4)} (r : Result)
    (h : s.btnIn = b :: b :: later) :
    buttonsWord ((issueReadButtons s).setResult r) = buttonsWord s := by
  have next : ((issueReadButtons s).setResult r).btnIn = b :: later := by simp [h]
  rw [buttonsWord_of_btnIn_cons next, buttonsWord_of_btnIn_cons h]

/-- With the switch pins unchanged the read after a read returns the same word. -/
theorem switchesWord_after_read {s : State} {w : Word} {later : List Word} (r : Result)
    (h : s.swIn = w :: w :: later) :
    switchesWord ((issueReadSwitches s).setResult r) = switchesWord s := by
  have next : ((issueReadSwitches s).setResult r).swIn = w :: later := by simp [h]
  rw [switchesWord_of_swIn_cons next, switchesWord_of_swIn_cons h]
  simp

/-- A repeated write of the same word adds its entry to the bus history and does nothing else. -/
theorem writeLeds_writeLeds (r : Word) (s : State) :
    writeLeds r (writeLeds r s) = (writeLeds r s).logBus ⟨true, s.params.offLeds, r⟩ := rfl

/-! ## The read mux and the write decode at the registers (rules R44, R45) -/

/-- An admissible register offset lies inside the span with its four bytes (rule R7). -/
theorem inSpan_of_offsetWf {p : Params} {off : Offset} (h : p.OffsetWf off) :
    inSpan p.span off.toNat 4 = true := by
  simp [inSpan, h.1]

theorem memRead_offSwitches {s : State} (h : s.params.OffsetWf s.params.offSwitches) :
    memRead s.params.offSwitches.toNat 4 s = .ok (switchesWord s, issueReadSwitches s) := by
  simp [memRead, inSpan_of_offsetWf h]

theorem memRead_offButtons {s : State} (h : s.params.OffsetWf s.params.offButtons)
    (hne : s.params.offSwitches ≠ s.params.offButtons) :
    memRead s.params.offButtons.toNat 4 s = .ok (buttonsWord s, issueReadButtons s) := by
  have hmux : s.params.offButtons.toNat ≠ s.params.offSwitches.toNat := fun heq =>
    hne (BitVec.eq_of_toNat_eq heq.symm)
  simp [memRead, inSpan_of_offsetWf h, hmux]

theorem memWrite_offLeds {s : State} (v : Word) (h : s.params.OffsetWf s.params.offLeds) :
    memWrite s.params.offLeds.toNat 4 v s = .ok (writeLeds v s) := by
  simp [memWrite, inSpan_of_offsetWf h]

end Sys2Proof.Machine

namespace Sys2Proof.Proofs

open Sys2Proof.Machine

/-- Settles O5: what a read keeps is `issueReadButtons_eq` and `issueReadSwitches_eq`; the second read finds the same
word at the head of the list. -/
theorem accessesAreIdempotent : Obligations.AccessesAreIdempotent := by
  refine ⟨?reads, ?buttons, ?switches, ?write⟩
  case reads =>
    rintro s i (rfl | rfl)
    · exact ⟨_, exec_rdButtons s, by simp [issueReadButtons_eq]⟩
    · exact ⟨_, exec_rdSwitches s, by simp [issueReadSwitches_eq]⟩
  case buttons =>
    intro s t b later hpins ht
    rw [exec_rdButtons] at ht
    cases ht
    exact ⟨_, exec_rdButtons _, by simp [buttonsWord_after_read _ hpins]⟩
  case switches =>
    intro s t w later hpins ht
    rw [exec_rdSwitches] at ht
    cases ht
    exact ⟨_, exec_rdSwitches _, by simp [switchesWord_after_read _ hpins]⟩
  case write =>
    exact fun s r => ⟨_, _, exec_wrLeds r s, exec_wrLeds r _, writeLeds_writeLeds r s, rfl⟩

/-- Settles O7: the two registers are inside the span and apart, so each is selected by its own offset. -/
theorem memReadSelectsByOffset : Obligations.MemReadSelectsByOffset := by
  intro s off hwf
  obtain ⟨-, -, hsw, hbtn, -, hne, -⟩ := hwf
  refine ⟨?switches, ?buttons, ?elsewhere⟩
  case switches =>
    rintro rfl
    exact ⟨_, memRead_offSwitches hsw, issueReadSwitches_eq_passSwitches s⟩
  case buttons =>
    rintro rfl
    exact ⟨_, memRead_offButtons hbtn hne, issueReadButtons_eq_passButtons s⟩
  case elsewhere =>
    exact fun hs hb => ⟨_, memRead_undescribed hs hb⟩

/-- Settles O8: `LEDS` is inside the span, and the write decode selects nothing else. -/
theorem memWriteSelectsByOffset : Obligations.MemWriteSelectsByOffset := by
  intro s off v hwf
  obtain ⟨-, -, -, -, hleds, -⟩ := hwf
  refine ⟨?leds, fun hl => ⟨_, memWrite_undescribed v hl⟩⟩
  case leds =>
    rintro rfl
    exact memWrite_offLeds v hleds

end Sys2Proof.Proofs
end

section
/-! The register bank: the location an `ACCESS` yields (rule R80). -/

namespace Sys2Proof.Machine

/-! ## What `ACCESS` does on either side of its precondition -/

/-- An access inside the span leaves its location as the result and changes nothing else. -/
theorem exec_access_inside {s : State} {off : Offset} (we : Bool) (h : off.toNat + 4 ≤ s.params.span) :
    exec (.access we off) s =
      .next { s with result := .location we (s.params.base + off.toNat) } := by
  have inside : inSpan s.params.span off.toNat 4 = true := decide_eq_true h
  exact if_pos inside

/-- An access that reaches past the span is refused. -/
theorem exec_access_outside {s : State} {off : Offset} (we : Bool) (h : s.params.span < off.toNat + 4) :
    exec (.access we off) s = .refused (.preconditionViolation off.toNat) := by
  have outside : ¬ inSpan s.params.span off.toNat 4 = true := by
    simpa [inSpan] using h
  exact if_neg outside

end Sys2Proof.Machine

namespace Sys2Proof.Proofs

open Sys2Proof.Machine

/-- Settles O6: with `SPAN = 0x5000` the precondition `offset + 4 <= SPAN` is `offset <= 0x4FFC`, and rule R7 keeps the
block's own offsets inside the span. -/
theorem accessYieldsTheLocation : Obligations.AccessYieldsTheLocation := by
  intro s we off hwf
  obtain ⟨hbase, hspan, hsw, hbtn, hleds, -⟩ := hwf
  refine ⟨fun hoff => ⟨?location, ?address⟩, ?refused, ?registers⟩
  case location =>
    rw [← hbase]
    exact exec_access_inside we (by omega)
  case address => omega
  case refused =>
    exact fun hoff => exec_access_outside we (by omega)
  case registers =>
    have inside : s.params.OffsetWf off → off.toNat ≤ 0x4FFC := fun h => by
      have hend := h.1
      omega
    rintro (rfl | rfl | rfl)
    · exact inside hsw
    · exact inside hbtn
    · exact inside hleds

end Sys2Proof.Proofs
end

section
/-! The wrapped counter: what each operation means as a whole next state, and the statements about them
(41_wrapped_counter.md). -/

namespace Sys2Proof.Machine

/-! ## What a counter operation means -/

theorem exec_inc (s : State) : exec .inc s = .next { s with
    value := incremented s.max s.value, result := .count (incremented s.max s.value) } := rfl

theorem exec_dec (s : State) : exec .dec s = .next { s with
    value := decremented s.max s.value, result := .count (decremented s.max s.value) } := rfl

theorem exec_apply (f : Transform) (s : State) :
    exec (.apply f) s = .next { s with value := wrapCount s.max (runTransform f s.value) } := rfl

theorem exec_shr (s : State) :
    exec .shr s = .next { s with value := wrapCount s.max (runTransform .shr s.value) } := rfl

theorem exec_shl (s : State) :
    exec .shl s = .next { s with value := wrapCount s.max (runTransform .shl s.value) } := rfl

theorem exec_load (swv : Word) (s : State) :
    exec (.load swv) s = .next { s with value := wrapCount s.max swv } := rfl

theorem exec_toReg (s : State) : exec .toReg s = .next { s with result := .register s.value } := rfl

/-! ## The new values over the integers -/

/-- Rule R93 as a residue: the one step below 0 is a whole turn of `max + 1` away from `max`. -/
theorem decremented_eq_emod {max v : Count} (h : v ≤ max) :
    ((decremented max v).toNat : Int) = ((v.toNat : Int) - 1) % ((max.toNat : Int) + 1) := by
  by_cases hv : v = 0
  · have turn : (max.toNat : Int) = -1 + ((max.toNat : Int) + 1) := by omega
    have residue : (-1 : Int) % ((max.toNat : Int) + 1) = max.toNat := by
      rw [← Int.add_emod_right, ← turn]
      exact Int.emod_eq_of_lt (by omega) (by omega)
    simpa [decremented, hv] using residue.symm
  · have pred : (v - 1).toNat = v.toNat - 1 := by bv_omega
    have pos : 0 < v.toNat := by bv_omega
    rw [BitVec.le_def] at h
    rw [decremented, if_neg hv, pred, Int.emod_eq_of_lt] <;> omega

/-- Decision D3: `LED_COUNT` leaves the top bit of a word free. -/
theorem ledCount_le_of_wf {p : Params} (h : p.Wf) : p.ledCount ≤ 31 := by
  obtain ⟨-, -, -, -, -, -, -, -, ⟨-, hled⟩, -⟩ := h
  exact hled

/-- With `MAX = 2^LED_COUNT − 1` the reduction keeps the `LED_COUNT` low bits. -/
theorem wrapCount_paramsMax {p : Params} (h : p.Wf) (v : Count) :
    wrapCount p.max v = lowBits p.ledCount v := by
  have modulus : p.max.toNat + 1 = 2 ^ p.ledCount := by
    rw [Params.max_toNat (ledCount_le_of_wf h)]
    exact Nat.sub_add_cancel Nat.one_le_two_pow
  rw [wrapCount, lowBits, modulus]

theorem runTransform_shl_getLsbD_zero (v : Count) : (runTransform .shl v).getLsbD 0 = false := by
  simp [runTransform]

/-- A shift left moves each bit up one, while it stays inside the word. -/
theorem runTransform_shl_getLsbD_succ (v : Count) {i : Nat} (h : i + 1 < 32) :
    (runTransform .shl v).getLsbD (i + 1) = v.getLsbD i := by
  have hi : i < 32 := by omega
  simp [runTransform, h, BitVec.getLsbD_eq_getElem hi]

/-! ## Any function as an operand of `APPLY` (rule R94) -/

/-- The operand that writes a function out, one row for each value of `Count`. -/
noncomputable def tableOf (f : Count → Count) : Transform :=
  .table (Finset.univ.toList.map fun k => (k, f k)) 0

theorem runTransform_tableOf (f : Count → Count) (v : Count) : runTransform (tableOf f) v = f v :=
  lookupRow_map f _ _ v (Finset.mem_toList.mpr (Finset.mem_univ v))

end Sys2Proof.Machine

namespace Sys2Proof.Proofs

open Sys2Proof.Machine

/-- Settles O12: `decremented` is the rule's formula, and `decremented_eq_emod` its residue. -/
theorem decWrapsAtZero : Obligations.DecWrapsAtZero := fun s =>
  ⟨decremented s.max s.value, rfl, exec_dec s, decremented_eq_emod⟩

/-- Settles O13: `Count` is finite, so `tableOf` writes any function out. -/
theorem applyReducesAnyFunction : Obligations.ApplyReducesAnyFunction := by
  refine ⟨fun s f => exec_apply f s, fun f => ⟨tableOf f, fun s => ⟨_, wrapCount_toNat s.max _, ?_⟩⟩⟩
  rw [exec_apply, runTransform_tableOf]

/-- Settles O14: half of a value in range is in range. -/
theorem shrHalves : Obligations.ShrHalves := by
  intro s
  have halved : (wrapCount s.max (runTransform .shr s.value)).toNat =
      s.value.toNat / 2 % (s.max.toNat + 1) := by
    rw [wrapCount_toNat, runTransform_shr_toNat]
  refine ⟨_, halved, exec_shr s, fun inRange => ?_⟩
  rw [BitVec.le_def] at inRange
  rw [halved, Nat.mod_eq_of_lt (by omega)]

/-- Settles O15: below `2^31` the product fits the word, and the reduction by `2^LED_COUNT` keeps the low bits of the
shifted word. -/
theorem shlDoublesAndWraps : Obligations.ShlDoublesAndWraps := by
  intro s hmax inRange
  have small : s.value.toNat < 2 ^ 31 := lt_of_le_of_lt inRange hmax
  refine ⟨wrapCount s.max (runTransform .shl s.value), ?product, exec_shl s, ?bits⟩
  case product => rw [wrapCount_toNat, runTransform_shl_toNat small]
  case bits =>
    intro hwf hm
    have hled := ledCount_le_of_wf hwf
    rw [hm, wrapCount_paramsMax hwf]
    refine ⟨?bottom, fun i hi => ?moved⟩
    case bottom => rw [lowBits_getLsbD, runTransform_shl_getLsbD_zero, Bool.and_false]
    case moved =>
      rw [lowBits_getLsbD, runTransform_shl_getLsbD_succ _ (by omega), decide_eq_true hi, Bool.true_and]

/-- Settles O17: the reduction of `swv`, which for `MAX = 2^LED_COUNT − 1` is its field of `LED_COUNT` bits. -/
theorem loadReducesTheWord : Obligations.LoadReducesTheWord := by
  intro s swv
  refine ⟨_, wrapCount_toNat s.max swv, exec_load swv s, ?bits⟩
  case bits =>
    intro hwf hm i
    rw [hm, wrapCount_paramsMax hwf, lowBits_getLsbD]

/-- Settles O21: `INC` and `DEC` stay in a range they start in, and every reduced value is in range. -/
theorem counterStaysInRange : Obligations.CounterStaysInRange := by
  rintro s i inRange (rfl | rfl | rfl | rfl | ⟨w, rfl⟩ | ⟨f, rfl⟩)
  · exact ⟨_, exec_inc s, incremented_le inRange, rfl⟩
  · exact ⟨_, exec_dec s, decremented_le inRange, rfl⟩
  · exact ⟨_, exec_shr s, wrapCount_le _ _, rfl⟩
  · exact ⟨_, exec_shl s, wrapCount_le _ _, rfl⟩
  · exact ⟨_, exec_load w s, wrapCount_le _ _, rfl⟩
  · exact ⟨_, exec_apply f s, wrapCount_le _ _, rfl⟩

/-- Settles O19: the conversion of a `Count` to a `Register` is the identity. -/
theorem toRegReadsTheCounter : Obligations.ToRegReadsTheCounter := exec_toReg

end Sys2Proof.Proofs
end

section
/-! The input decoder: the population count by the positions of the set bits, what `DECODE` means, and the statements
about it (42_input_decoder.md). -/

namespace Sys2Proof.Machine

/-! ## The population count by the positions of the set bits -/

theorem popcount_eq_card (w : Word) :
    popcount w = ((Finset.range 32).filter fun i => w.getLsbD i = true).card := by
  rw [popcount, List.countP_eq_length_filter, ← List.toFinset_card_of_nodup (List.nodup_range.filter _),
    List.toFinset_filter, List.toFinset_range]

theorem popcount_eq_zero_iff {w : Word} : popcount w = 0 ↔ ∀ i, i < 32 → w.getLsbD i = false := by
  simp [popcount, List.countP_eq_zero]

theorem two_le_popcount {w : Word} {i j : Nat} (hij : i < j) (hj : j < 32) (hwi : w.getLsbD i = true)
    (hwj : w.getLsbD j = true) : 2 ≤ popcount w := by
  rw [popcount_eq_card]
  have hi : i < 32 := hij.trans hj
  exact Finset.one_lt_card.mpr ⟨i, by simp [hi, hwi], j, by simp [hj, hwj], hij.ne⟩

theorem popcount_lone {w : Word} {q : Nat} (hq : q < 32) (lone : ∀ i, i < 32 → w.getLsbD i = decide (i = q)) :
    popcount w = 1 := by
  have setBits : ((Finset.range 32).filter fun i => w.getLsbD i = true) = {q} := by
    ext i
    rw [Finset.mem_filter, Finset.mem_range, Finset.mem_singleton]
    constructor
    · rintro ⟨hi, hwi⟩
      exact of_decide_eq_true (lone i hi ▸ hwi)
    · rintro rfl
      exact ⟨hq, (lone i hq).trans (decide_eq_true rfl)⟩
  rw [popcount_eq_card, setBits, Finset.card_singleton]

/-! ## What `DECODE` means -/

theorem exec_decode (w : Word) (s : State) : exec (.decode w) s =
    .next { s with result := .event (decodeButtons s.params.evHighSingle w) } := rfl

end Sys2Proof.Machine

namespace Sys2Proof

open Machine

/-! ## What the decoder answers, by the positions of the set bits (rules R105, R106) -/

theorem decodeButtons_none {h : ButtonEvent} {w : Word} (hw : popcount w = 0) : decodeButtons h w = .none := by
  rw [decodeButtons, if_pos hw]

/-- A lone bit gives the button of its position, and `EV_HIGH_SINGLE` above position 3. -/
theorem decodeButtons_lone {h : ButtonEvent} {w : Word} {q : Nat} (hq : q < 32)
    (lone : ∀ i, i < 32 → w.getLsbD i = decide (i = q)) :
    decodeButtons h w =
      if q = 0 then .button0 else if q = 1 then .button1 else if q = 2 then .button2
      else if q = 3 then .button3 else h := by
  have one := popcount_lone hq lone
  obtain ⟨zero, -⟩ | ⟨two, -⟩ | ⟨-, answer⟩ := decodeButtons_cases h w
  · omega
  · omega
  · rw [answer, lone 0 (by omega), lone 1 (by omega), lone 2 (by omega), lone 3 (by omega)]
    simp only [decide_eq_true_eq, eq_comm (b := q)]

end Sys2Proof

namespace Sys2Proof.Proofs

open Sys2Proof.Machine

/-- Settles O23: the three cases of the rule are population counts 0, at least 2, and 1. -/
theorem decodeCountsTheBits : Obligations.DecodeCountsTheBits := by
  intro s w
  refine ⟨_, exec_decode w s, ?noBit, ?twoBits, ?loneBit⟩
  case noBit =>
    exact fun clear => decodeButtons_none (popcount_eq_zero_iff.mpr clear)
  case twoBits =>
    rintro ⟨i, j, hij, hj, hwi, hwj⟩
    exact decodeButtons_multiple (two_le_popcount hij hj hwi hwj)
  case loneBit =>
    intro q hq lone
    rw [decodeButtons_lone hq lone]
    refine ⟨?_, ?_, ?_, ?_⟩ <;> rintro rfl <;> rfl

/-- Settles O25: the result is a function of the word and of `EV_HIGH_SINGLE`. -/
theorem decodeDependsOnTheWordAlone : Obligations.DecodeDependsOnTheWordAlone := by
  intro s s' w sameParameter
  exact ⟨_, _, exec_decode w s, exec_decode w s', by rw [sameParameter]⟩

end Sys2Proof.Proofs
end

section
/-! The control FSM: the debounce gate (43_control_fsm.md, rule R115). -/

namespace Sys2Proof.Machine

/-! ## What `GATE` means -/

theorem exec_gate (cur : ButtonEvent) (s : State) :
    exec (.gate cur) s = .next { s with result := .skip (gateSkips s.prev cur) } := rfl

/-- The two grounds of a skip: a chord that is still being released, and an event that did not change. -/
theorem gateSkips_eq_true_iff (prev cur : ButtonEvent) :
    gateSkips prev cur = true ↔ (prev = .multiple ∧ cur ≠ .none) ∨ cur = prev := by
  rw [gateSkips, Bool.or_eq_true, Bool.and_eq_true, beq_iff_eq, bne_iff_ne, beq_iff_eq]

end Sys2Proof.Machine

namespace Sys2Proof.Proofs

open Sys2Proof.Machine

/-- Settles O28: the flag returned is `gateSkips`, and `gateSkips_eq_true_iff` names the grounds on which it is set. -/
theorem gateSkipsHeldInputs : Obligations.GateSkipsHeldInputs := fun s cur =>
  ⟨gateSkips s.prev cur, exec_gate cur s, gateSkips_eq_true_iff s.prev cur⟩

end Sys2Proof.Proofs
end

section
/-! The host's side: a block held in reset, what Initialize answers, and the statement about the two
(60_exceptions.md). -/

namespace Sys2Proof.Machine

/-! ## A block that is held -/

/-- Nothing moves a held block, however many steps are made (rule R161). -/
theorem runSteps_held {s : State} (h : s.mapping ≠ .valid) (k : Nat) : runSteps k s = .next s := by
  induction k with
  | zero => rfl
  | succ k ih => rw [runSteps, step_held h]; exact ih

/-! ## What Initialize answers (rules R141, R152, R153) -/

theorem hostInitialize_succeeds {s : State} (h : s.mapping = .absent) :
    hostInitialize true s = .next { s with mapping := .valid } := by
  rw [hostInitialize, h]; rfl

theorem hostInitialize_fails {s : State} (h : s.mapping = .absent) :
    hostInitialize false s = .fault .mappingError := by
  rw [hostInitialize, h]; rfl

theorem hostInitialize_again {s : State} (h : s.mapping ≠ .absent) (ok : Bool) :
    hostInitialize ok s = .refused .initializeAgain := by
  cases hm : s.mapping with
  | absent => exact absurd hm h
  | valid => rw [hostInitialize, hm]
  | released => rw [hostInitialize, hm]

theorem hostFailStatus_mappingError (p : Params) : hostFailStatus p .mappingError = p.exitFailStatus := rfl

end Sys2Proof.Machine

namespace Sys2Proof.Proofs

open Sys2Proof.Machine

/-- Settles O56: a block whose mapping is absent is held, and Initialize answers by the mapping it finds. -/
theorem heldInResetUntilMapped : Obligations.HeldInResetUntilMapped := by
  refine fun s => ⟨fun unmapped => ?absent, hostInitialize_again⟩
  case absent =>
    have held : s.mapping ≠ .valid := by simp [unmapped]
    exact ⟨runSteps_held held, hostInitialize_succeeds unmapped, hostInitialize_fails unmapped,
      hostFailStatus_mappingError s.params⟩

end Sys2Proof.Proofs
end

section
/-! The register bank: what a sample is, why an access is refused, and the statements about the three registers
(20_memory.md, 40_register_access.md). -/

namespace Sys2Proof.Machine

/-! ## The pins at a sample (rule R52) -/

theorem passButtons_of_btnIn_cons {s : State} {b : BitVec 4} {later : List (BitVec 4)}
    (h : s.btnIn = b :: later) : passButtons s = { s with btnIn := later } := by
  simp [passButtons_eq, h]

theorem sampleButtons_of_btnIn_cons {s : State} {b : BitVec 4} {later : List (BitVec 4)}
    (h : s.btnIn = b :: later) : sampleButtons s = b := by
  rw [sampleButtons, h]

theorem sampleButtons_of_btnIn_nil {s : State} (h : s.btnIn = []) :
    sampleButtons s = Config.freeButtons s.draws := by
  rw [sampleButtons, h]

theorem sampleSwitches_of_swIn_nil {s : State} (h : s.swIn = []) :
    sampleSwitches s = lowBits s.params.switchCount (Config.freeSwitches s.draws) := by
  rw [sampleSwitches, h]

/-! A sample leaves the block's own elements, the host's mapping and what is offered. -/

section
variable (s : State)

@[simp] theorem passButtons_params : (passButtons s).params = s.params := by rw [passButtons_eq]
@[simp] theorem passButtons_value : (passButtons s).value = s.value := by rw [passButtons_eq]
@[simp] theorem passButtons_max : (passButtons s).max = s.max := by rw [passButtons_eq]
@[simp] theorem passButtons_prev : (passButtons s).prev = s.prev := by rw [passButtons_eq]
@[simp] theorem passButtons_term : (passButtons s).term = s.term := by rw [passButtons_eq]
@[simp] theorem passButtons_phase : (passButtons s).phase = s.phase := by rw [passButtons_eq]
@[simp] theorem passButtons_leds : (passButtons s).leds = s.leds := by rw [passButtons_eq]
@[simp] theorem passButtons_mapping : (passButtons s).mapping = s.mapping := by rw [passButtons_eq]
@[simp] theorem passButtons_result : (passButtons s).result = s.result := by rw [passButtons_eq]
@[simp] theorem passButtons_offered : (passButtons s).offered = s.offered := by rw [passButtons_eq]
@[simp] theorem passButtons_swIn : (passButtons s).swIn = s.swIn := by rw [passButtons_eq]

@[simp] theorem passSwitches_params : (passSwitches s).params = s.params := by rw [passSwitches_eq]
@[simp] theorem passSwitches_value : (passSwitches s).value = s.value := by rw [passSwitches_eq]
@[simp] theorem passSwitches_max : (passSwitches s).max = s.max := by rw [passSwitches_eq]
@[simp] theorem passSwitches_prev : (passSwitches s).prev = s.prev := by rw [passSwitches_eq]
@[simp] theorem passSwitches_term : (passSwitches s).term = s.term := by rw [passSwitches_eq]
@[simp] theorem passSwitches_phase : (passSwitches s).phase = s.phase := by rw [passSwitches_eq]
@[simp] theorem passSwitches_leds : (passSwitches s).leds = s.leds := by rw [passSwitches_eq]
@[simp] theorem passSwitches_mapping : (passSwitches s).mapping = s.mapping := by rw [passSwitches_eq]
@[simp] theorem passSwitches_result : (passSwitches s).result = s.result := by rw [passSwitches_eq]
@[simp] theorem passSwitches_offered : (passSwitches s).offered = s.offered := by rw [passSwitches_eq]
@[simp] theorem passSwitches_btnIn : (passSwitches s).btnIn = s.btnIn := by rw [passSwitches_eq]

end

/-! ## Why the bank refuses an access (rules R46 to R49) -/

section
variable {p : Params} {off : Nat}

theorem undescribedAccess_outside (we : Bool) (h : p.span < off + 4) :
    undescribedAccess p we off = .preconditionViolation off := by
  have outside : inSpan p.span off 4 = false := by simpa [inSpan] using h
  rw [undescribedAccess, outside]
  rfl

/-- Inside the span the refusal names what the offset is. -/
theorem undescribedAccess_inside (we : Bool) (h : off + 4 ≤ p.span) :
    undescribedAccess p we off =
      if we then
        if off = p.offSwitches.toNat ∨ off = p.offButtons.toNat then .writeOfReadOnly off else .unmappedOffset off
      else if off = p.offLeds.toNat then .readOfLeds
      else .unmappedOffset off := by
  have inside : inSpan p.span off 4 = true := by simpa [inSpan] using h
  rw [undescribedAccess, inside]
  rfl

theorem undescribedAccess_unmapped (we : Bool) (h : off + 4 ≤ p.span) (hs : off ≠ p.offSwitches.toNat)
    (hb : off ≠ p.offButtons.toNat) (hl : off ≠ p.offLeds.toNat) :
    undescribedAccess p we off = .unmappedOffset off := by
  cases we <;> simp [undescribedAccess_inside _ h, hs, hb, hl]

theorem undescribedAccess_readOfLeds (h : p.OffsetWf p.offLeds) :
    undescribedAccess p false p.offLeds.toNat = .readOfLeds := by
  simp [undescribedAccess_inside false h.1]

theorem undescribedAccess_writeOfReadOnly (h : off + 4 ≤ p.span)
    (hro : off = p.offSwitches.toNat ∨ off = p.offButtons.toNat) :
    undescribedAccess p true off = .writeOfReadOnly off := by
  simp [undescribedAccess_inside true h, hro]

/-- An offset past the span or off a word boundary is no register's (rule R7). -/
theorem ne_register_of_misplaced {reg : Offset} (h : p.OffsetWf reg) (hoff : p.span < off + 4 ∨ off % 4 ≠ 0) :
    off ≠ reg.toNat := by
  rintro rfl
  omega

end

theorem memRead_width {n : Nat} (off : Nat) (s : State) (h : n ≠ 4) :
    memRead off n s = .error (.accessWidth n) := if_pos h

theorem memWrite_width {n : Nat} (off : Nat) (v : Word) (s : State) (h : n ≠ 4) :
    memWrite off n v s = .error (.accessWidth n) := if_pos h

end Sys2Proof.Machine

namespace Sys2Proof.Proofs

open Sys2Proof.Machine

/-- Settles O1: a sample is the head of its list or the free value of the draw counter. -/
theorem pinSamplesAreDraws : Obligations.PinSamplesAreDraws := by
  refine fun s => ⟨?listedButtons, ?freeButtons, ?listedSwitches, ?freeSwitches⟩
  case listedButtons =>
    exact fun b later h => ⟨sampleButtons_of_btnIn_cons h, passButtons_of_btnIn_cons h⟩
  case freeButtons =>
    exact fun h => ⟨sampleButtons_of_btnIn_nil h, by simp [passButtons_eq, h]⟩
  case listedSwitches =>
    intro w later h
    refine ⟨?_, by simp [passSwitches_eq, h]⟩
    exact (congrArg BitVec.toNat (switchesWord_of_swIn_cons h)).trans (lowBits_toNat _ w)
  case freeSwitches =>
    intro h
    exact ⟨by rw [sampleSwitches_of_swIn_nil h, lowBits_toNat], by simp [passSwitches_eq, h]⟩

/-- Settles O2: the read is `issueReadButtons`, and zero extension keeps the number of the four lines. -/
theorem rdButtonsReturnsThePins : Obligations.RdButtonsReturnsThePins := by
  intro s
  refine ⟨?_, zextButtons_toNat _, buttonsWord_lt s⟩
  rw [exec_rdButtons, issueReadButtons_eq_passButtons]
  rfl

/-- Settles O3: the read is `issueReadSwitches`, and a sample has `SWITCH_COUNT` lines. -/
theorem rdSwitchesReturnsThePins : Obligations.RdSwitchesReturnsThePins := by
  intro s
  refine ⟨?_, sampleSwitches_lt s⟩
  rw [exec_rdSwitches, issueReadSwitches_eq_passSwitches]
  rfl

/-- Settles O4: the write is `writeLeds`, and `led_out` is the field of `LED_COUNT` bits of `LEDS`. -/
theorem wrLedsDrivesTheLeds : Obligations.WrLedsDrivesTheLeds := fun s r =>
  ⟨exec_wrLeds r s, lowBits_getLsbD s.params.ledCount r⟩

/-- Settles O9: where the mux and the write decode select no register, `undescribedAccess` names the ground. -/
theorem undescribedAccessesAreRefused : Obligations.UndescribedAccessesAreRefused := by
  intro s off n v hwf
  obtain ⟨-, hspan, hsw, hbtn, hleds, hsb, hsl, hbl, -⟩ := hwf
  have apart {a b : Offset} (h : a ≠ b) : a.toNat ≠ b.toNat := fun heq => h (BitVec.eq_of_toNat_eq heq)
  refine ⟨?width, ?outside, ?unmapped, ?misaligned, ?leds, ?switches, ?buttons⟩
  case width => exact fun hn => ⟨memRead_width off s hn, memWrite_width off v s hn⟩
  case outside =>
    intro hoff
    rw [← hspan] at hoff
    rw [memRead_undescribed (ne_register_of_misplaced hsw (.inl hoff)) (ne_register_of_misplaced hbtn (.inl hoff)),
      memWrite_undescribed v (ne_register_of_misplaced hleds (.inl hoff)),
      undescribedAccess_outside _ hoff, undescribedAccess_outside _ hoff]
    exact ⟨rfl, rfl⟩
  case unmapped =>
    intro hoff hs hb hl
    rw [← hspan] at hoff
    rw [memRead_undescribed hs hb, memWrite_undescribed v hl,
      undescribedAccess_unmapped _ hoff hs hb hl, undescribedAccess_unmapped _ hoff hs hb hl]
    exact ⟨rfl, rfl⟩
  case misaligned =>
    intro hmod hoff
    rw [← hspan] at hoff
    have hs := ne_register_of_misplaced hsw (.inr hmod)
    have hb := ne_register_of_misplaced hbtn (.inr hmod)
    rw [memRead_undescribed hs hb,
      undescribedAccess_unmapped _ hoff hs hb (ne_register_of_misplaced hleds (.inr hmod))]
  case leds => rw [memRead_undescribed (apart hsl.symm) (apart hbl.symm), undescribedAccess_readOfLeds hleds]
  case switches => rw [memWrite_undescribed v (apart hsl), undescribedAccess_writeOfReadOnly hsw.1 (.inl rfl)]
  case buttons => rw [memWrite_undescribed v (apart hbl), undescribedAccess_writeOfReadOnly hbtn.1 (.inr rfl)]

/-- Settles O10: at their own offsets the mux and the write decode do what the named accessors do. -/
theorem namedAccessorsUseTheWindow : Obligations.NamedAccessorsUseTheWindow := by
  intro s r hwf
  obtain ⟨-, -, hsw, hbtn, hleds, hne, -⟩ := hwf
  exact ⟨⟨_, _, memRead_offSwitches hsw, exec_rdSwitches s⟩,
    ⟨_, _, memRead_offButtons hbtn hne, exec_rdButtons s⟩,
    ⟨_, memWrite_offLeds r hleds, exec_wrLeds r s⟩⟩

end Sys2Proof.Proofs
end

section
/-! The wrapped counter: its steps as residues, and the statements about single operations and cycles
(41_wrapped_counter.md). -/

namespace Sys2Proof.Machine

/-! ## The new values over the integers -/

/-- Rule R92 as a residue. -/
theorem incremented_toNat {max v : Count} (h : v ≤ max) :
    (incremented max v).toNat = (v.toNat + 1) % (max.toNat + 1) := by
  by_cases hv : v = max
  · simp [incremented, hv]
  · have succ : (v + 1).toNat = v.toNat + 1 := by bv_omega
    have below : v.toNat + 1 < max.toNat + 1 := by bv_omega
    rw [incremented, if_neg hv, succ, Nat.mod_eq_of_lt below]

/-- Rule R93 as a residue: adding one gives the old value back. -/
theorem decremented_toNat_add_one {max v : Count} (h : v ≤ max) :
    ((decremented max v).toNat + 1) % (max.toNat + 1) = v.toNat := by
  rw [← incremented_toNat (decremented_le h), incremented_decremented h]

/-- A value in range is its own residue. -/
theorem toNat_mod_of_le {max v : Count} (h : v ≤ max) : v.toNat % (max.toNat + 1) = v.toNat :=
  Nat.mod_eq_of_lt (Nat.lt_succ_of_le h)

/-- The doubled counter in 32 bits (00_scope.md section 4). -/
theorem runTransform_shl_toNat_mod (v : Count) : (runTransform .shl v).toNat = 2 * v.toNat % 2 ^ 32 := by
  simp only [runTransform, BitVec.toNat_shiftLeft, Nat.shiftLeft_eq, pow_one, Nat.mul_comm]

/-! ## Repeated steps (rule R100) -/

theorem execMany_succ {i : Instr} {s t : State} (h : exec i s = .next t) (k : Nat) :
    execMany i (k + 1) s = execMany i k t := by
  rw [execMany, h]

/-- `k` increments add `k` modulo `max + 1`. -/
theorem execMany_inc (k : Nat) {s : State} (h : s.value ≤ s.max) :
    ∃ t, execMany .inc k s = .next t ∧ t.value.toNat = (s.value.toNat + k) % (s.max.toNat + 1) := by
  induction k generalizing s with
  | zero => exact ⟨s, rfl, (toNat_mod_of_le h).symm⟩
  | succ k ih =>
    obtain ⟨t, run, value⟩ := ih (s := { s with
      value := incremented s.max s.value, result := .count (incremented s.max s.value) }) (incremented_le h)
    refine ⟨t, (execMany_succ (exec_inc s) k).trans run, value.trans ?_⟩
    rw [incremented_toNat h, Nat.mod_add_mod, Nat.add_assoc, Nat.add_comm 1 k]

/-- `k` decrements are undone by adding `k` modulo `max + 1`. -/
theorem execMany_dec (k : Nat) {s : State} (h : s.value ≤ s.max) :
    ∃ t, execMany .dec k s = .next t ∧ t.value ≤ s.max ∧
      (t.value.toNat + k) % (s.max.toNat + 1) = s.value.toNat := by
  induction k generalizing s with
  | zero => exact ⟨s, rfl, h, toNat_mod_of_le h⟩
  | succ k ih =>
    obtain ⟨t, run, inRange, value⟩ := ih (s := { s with
      value := decremented s.max s.value, result := .count (decremented s.max s.value) }) (decremented_le h)
    refine ⟨t, (execMany_succ (exec_dec s) k).trans run, inRange, ?_⟩
    calc (t.value.toNat + (k + 1)) % (s.max.toNat + 1)
      _ = ((t.value.toNat + k) % (s.max.toNat + 1) + 1) % (s.max.toNat + 1) := by
        rw [Nat.mod_add_mod, Nat.add_assoc]
      _ = ((decremented s.max s.value).toNat + 1) % (s.max.toNat + 1) := by rw [value]
      _ = s.value.toNat := decremented_toNat_add_one h

end Sys2Proof.Machine

namespace Sys2Proof.Proofs

open Sys2Proof.Machine

/-- Settles O11: `incremented` is the rule's formula, and `incremented_toNat` its residue. -/
theorem incWrapsAtMax : Obligations.IncWrapsAtMax := fun s =>
  ⟨incremented s.max s.value, rfl, exec_inc s, incremented_toNat,
    fun noCount zero => if_pos (zero.trans noCount.symm)⟩

/-- Settles O16: the shift gives the 32-bit product, whatever the value. -/
theorem shlCompletesEverywhere : Obligations.ShlCompletesEverywhere := fun s =>
  ⟨_, by rw [wrapCount_toNat, runTransform_shl_toNat_mod], exec_shl s⟩

/-- Settles O18: the four operations have one meaning, with the transforms the rule names. -/
theorem pseudoOperationsAreApply : Obligations.PseudoOperationsAreApply := by
  intro s swv
  rw [exec_shr, exec_shl, exec_load, exec_apply, exec_apply, exec_apply]
  exact ⟨rfl, rfl, rfl, rfl, rfl, rfl⟩

/-- Settles O20: `HOLD` has no effect. -/
theorem holdChangesNothing : Obligations.HoldChangesNothing := fun _ => rfl

/-- Settles O22: the two single steps undo each other, and `max + 1` is 0 among the residues. -/
theorem incDecAreInverseCycles : Obligations.IncDecAreInverseCycles := by
  intro s h
  refine ⟨⟨_, _, exec_dec s, exec_inc _, incremented_decremented h⟩,
    ⟨_, _, exec_inc s, exec_dec _, decremented_incremented h⟩, ?incCycle, ?decCycle⟩
  case incCycle =>
    obtain ⟨t, run, value⟩ := execMany_inc (s.max.toNat + 1) h
    rw [Nat.add_mod_right, toNat_mod_of_le h] at value
    exact ⟨t, run, BitVec.eq_of_toNat_eq value⟩
  case decCycle =>
    obtain ⟨t, run, inRange, value⟩ := execMany_dec (s.max.toNat + 1) h
    rw [Nat.add_mod_right, toNat_mod_of_le inRange] at value
    exact ⟨t, run, BitVec.eq_of_toNat_eq value⟩

end Sys2Proof.Proofs
end

section
/-! The input decoder: the answer for a lone bit above the four lines (42_input_decoder.md, rule R106). -/

namespace Sys2Proof.Proofs

open Sys2Proof.Machine

/-- Settles O24: `decodeButtons_lone` above position 3. -/
theorem loneHighBitGivesTheParameter : Obligations.LoneHighBitGivesTheParameter := by
  intro s w q high hq lone
  rw [exec_decode, decodeButtons_lone hq lone]
  simp (disch := omega) only [if_neg]

end Sys2Proof.Proofs
end

section
/-! The control FSM: what an event's action and an iteration come to as whole next states (43_control_fsm.md). -/

namespace Sys2Proof.Machine

/-! ## The actions (rules R116 to R122) -/

/-- The counter after the action of `cur`; `Multiple` takes its counter from the switches (`multipleAction`) and is left
out here. -/
def buttonCount (cur : ButtonEvent) (max v : Count) : Count :=
  match cur with
  | .none => v
  | .button0 => incremented max v
  | .button1 => decremented max v
  | .button2 => wrapCount max (runTransform .shr v)
  | .button3 => wrapCount max (runTransform .shl v)
  | .multiple => v

/-- An action other than `Multiple`'s moves the counter and nothing else. -/
theorem runEvent_eq_of_ne_multiple {cur : ButtonEvent} (h : cur ≠ .multiple) (s : State) :
    runEvent cur s = { s with value := buttonCount cur s.max s.value } := by
  cases cur
  case multiple => exact absurd rfl h
  all_goals rfl

theorem buttonCount_le (cur : ButtonEvent) {max v : Count} (h : v ≤ max) : buttonCount cur max v ≤ max := by
  cases cur
  case none => exact h
  case button0 => exact incremented_le h
  case button1 => exact decremented_le h
  case button2 => exact wrapCount_le _ _
  case button3 => exact wrapCount_le _ _
  case multiple => exact h

/-- The chord's action is one switch sample, its entry in the bus history, the load and the sentinel test. -/
theorem multipleAction_eq_passSwitches (s : State) : multipleAction s =
    { passSwitches s with
      value := wrapCount s.max (sampleSwitches s)
      term := termAfter s.term (sampleSwitches s)
      bus := s.bus ++ [⟨false, s.params.offSwitches, sampleSwitches s⟩] } := by
  rw [multipleAction_eq, passSwitches_eq]
  rfl

@[simp] theorem termAfter_zero (term : Bool) : termAfter term 0#32 = true := Bool.or_true term

theorem termAfter_of_ne_zero (term : Bool) {swv : Word} (h : swv ≠ 0) : termAfter term swv = term := by
  rw [termAfter, Config.switchExitSentinel, beq_eq_false_iff_ne.mpr h, Bool.or_false]

@[simp] theorem wrapCount_zero (max : Count) : wrapCount max 0#32 = 0#32 := by
  apply BitVec.eq_of_toNat_eq
  simp [wrapCount_toNat]

/-- The gate lets a changed event through, but out of a chord only `None` (rule R115). -/
theorem gateSkips_eq_false_iff (prev cur : ButtonEvent) :
    gateSkips prev cur = false ↔ cur ≠ prev ∧ (prev ≠ .multiple ∨ cur = .none) := by
  rw [Bool.eq_false_iff, ne_eq, gateSkips_eq_true_iff, not_or, not_and_or, not_not, and_comm]

/-- The gate holds a chord exactly while it is held. -/
theorem gateSkips_multiple_eq_true_iff (prev : ButtonEvent) :
    gateSkips prev .multiple = true ↔ prev = .multiple := by
  cases prev <;> decide

/-- Only a new chord passes the gate. -/
theorem gateSkips_multiple_eq_false_iff (prev : ButtonEvent) :
    gateSkips prev .multiple = false ↔ prev ≠ .multiple := by
  rw [Bool.eq_false_iff, ne_eq, gateSkips_multiple_eq_true_iff]

/-! ## The three kinds of iteration (rules R125, R130) -/

/-- After an iteration whose gate holds (rule R125). -/
def skippedIteration (s : State) : State :=
  { passButtons s with
    phase := .sleep
    bus := s.bus ++ [buttonsRead s.params (sampleButtons s)] }

/-- After a dispatched iteration of an event other than `Multiple` (rule R130). -/
def buttonIteration (s : State) : State :=
  let cur := pinsEvent s.params (sampleButtons s)
  let v := buttonCount cur s.max s.value
  { passButtons s with
    value := v
    leds := v
    prev := cur
    phase := if s.term then .halt else .sleep
    bus := s.bus ++ [buttonsRead s.params (sampleButtons s), ⟨true, s.params.offLeds, v⟩] }

/-- After a dispatched iteration of `Multiple`, whose switches are sampled after the buttons (rule R130). -/
def chordIteration (s : State) : State :=
  let swv := sampleSwitches (passButtons s)
  let v := wrapCount s.max swv
  let b := termAfter s.term swv
  { passSwitches (passButtons s) with
    value := v
    leds := v
    prev := .multiple
    term := b
    phase := if b then .halt else .sleep
    bus := s.bus ++ [buttonsRead s.params (sampleButtons s), ⟨false, s.params.offSwitches, swv⟩,
      ⟨true, s.params.offLeds, v⟩] }

section
variable {s : State}

theorem iterateOnce_of_gate (h : gateSkips s.prev (pinsEvent s.params (sampleButtons s)) = true) :
    iterateOnce s = skippedIteration s := by
  obtain ⟨-, skipped⟩ | ⟨through, -⟩ := iterateOnce_cases s
  · rw [skipped, issueReadButtons_eq_passButtons]
    rfl
  · exact absurd (h.symm.trans through) (by decide)

/-- An iteration whose gate is open runs the action of its event, then steps 4 and 5. -/
theorem iterateOnce_of_open (h : gateSkips s.prev (pinsEvent s.params (sampleButtons s)) = false) :
    iterateOnce s = finishIteration (pinsEvent s.params (sampleButtons s))
      (runEvent (pinsEvent s.params (sampleButtons s)) (issueReadButtons s)) := by
  obtain ⟨held, -⟩ | ⟨-, dispatched⟩ := iterateOnce_cases s
  · exact absurd (h.symm.trans held) (by decide)
  · exact dispatched

theorem iterateOnce_of_button (h : gateSkips s.prev (pinsEvent s.params (sampleButtons s)) = false)
    (hc : pinsEvent s.params (sampleButtons s) ≠ .multiple) : iterateOnce s = buttonIteration s := by
  rw [iterateOnce_of_open h, runEvent_eq_of_ne_multiple hc, finishIteration_eq, buttonIteration, issueReadButtons_eq,
    passButtons_eq]
  simp [buttonsWord, zextButtons]

theorem iterateOnce_of_chord (h : gateSkips s.prev (pinsEvent s.params (sampleButtons s)) = false)
    (hc : pinsEvent s.params (sampleButtons s) = .multiple) : iterateOnce s = chordIteration s := by
  have sampled : sampleSwitches (issueReadButtons s) = sampleSwitches (passButtons s) := rfl
  rw [iterateOnce_of_open h, hc, runEvent, multipleAction_eq_passSwitches, finishIteration_eq, sampled,
    issueReadButtons_eq_passButtons, passSwitches_eq, chordIteration, passSwitches_eq, passButtons_eq]
  simp

end

/-! ## What the operations mean -/

theorem exec_iterate_of_iter {s : State} (h : s.phase = .iter) : exec .iterate s = .next (iterateOnce s) := by
  rw [exec, execIterate, h]

theorem exec_iterate_of_rest {s : State} (h : s.phase ≠ .iter) : exec .iterate s = .next s := by
  rw [exec, execIterate]
  cases hp : s.phase with
  | iter => exact absurd hp h
  | sleep => rfl
  | halt => rfl

theorem exec_poll (s : State) :
    exec .poll s = .next ((issueReadButtons s).setResult (.event (polledEvent s))) := rfl

theorem exec_dispatch (cur : ButtonEvent) (s : State) : exec (.dispatch cur) s = .next (runEvent cur s) := rfl

/-- The operation a `BTN` word selects performs the action of the word's event (rule R121). -/
theorem exec_eventAction (w : Word) (cur : ButtonEvent) (s : State) :
    exec (eventAction w cur) s = .next (runEvent cur s) := by
  cases cur <;> rfl

theorem wake_of_ne_sleep {ph : Phase} (h : ph ≠ .sleep) : wake ph = ph := by
  cases ph
  case sleep => exact absurd rfl h
  all_goals rfl

theorem exec_sleep (s : State) : exec .sleep s = .next { s with phase := wake s.phase } := rfl

theorem buttonCount_button2_toNat (max v : Count) :
    (buttonCount .button2 max v).toNat = v.toNat / 2 % (max.toNat + 1) := by
  rw [buttonCount, wrapCount_toNat, runTransform_shr_toNat]

theorem buttonCount_button3_toNat (max v : Count) :
    (buttonCount .button3 max v).toNat = 2 * v.toNat % 2 ^ 32 % (max.toNat + 1) := by
  rw [buttonCount, wrapCount_toNat, runTransform_shl_toNat_mod]

end Sys2Proof.Machine

namespace Sys2Proof.Proofs

open Sys2Proof.Machine

/-- Settles O27: the poll is one read of the buttons and its decoding. -/
theorem pollReadsAndDecodes : Obligations.PollReadsAndDecodes := by
  intro s
  rw [exec_poll, issueReadButtons_eq_passButtons]
  rfl

/-- Settles O29: `DISPATCH` and the `EV` operations both run `runEvent`. -/
theorem dispatchSelectsTheAction : Obligations.DispatchSelectsTheAction := by
  refine fun s => ⟨?_, ?_, ?_, ?_, ?_, fun w => ?_, fun cur => ⟨_, exec_dispatch cur s⟩⟩
  · exact (exec_eventAction 0 .none s).symm
  · exact (exec_eventAction 0 .button0 s).symm
  · exact (exec_eventAction 0 .button1 s).symm
  · exact (exec_eventAction 0 .button2 s).symm
  · exact (exec_eventAction 0 .button3 s).symm
  · exact (exec_eventAction w .multiple s).symm

/-- Settles O30: each action moves the counter by `buttonCount`. -/
theorem buttonActionsMoveTheCounter : Obligations.ButtonActionsMoveTheCounter := fun s =>
  ⟨exec_eventAction 0 .none s, exec_eventAction 0 .button0 s, exec_eventAction 0 .button1 s,
    ⟨_, buttonCount_button2_toNat s.max s.value, exec_eventAction 0 .button2 s⟩,
    ⟨_, buttonCount_button3_toNat s.max s.value, exec_eventAction 0 .button3 s⟩⟩

/-- Settles O31: the chord's action reads, loads and tests the same unreduced word. -/
theorem chordLoadsTheSwitches : Obligations.ChordLoadsTheSwitches := by
  intro s w
  refine ⟨wrapCount s.max (sampleSwitches s), termAfter s.term (sampleSwitches s), ?_, wrapCount_toNat _ _, ?_, ?_⟩
  · rw [← multipleAction_eq_passSwitches]
    exact exec_eventAction w .multiple s
  · exact fun off => by simp [off]
  · exact termAfter_of_ne_zero s.term

/-- Settles O32: each is its one plain update, `LED_UPDATE` with its bus access. -/
theorem ledAndPrevUpdates : Obligations.LedAndPrevUpdates := fun _ _ => ⟨rfl, rfl⟩

/-- Settles O33: `SLEEP` wakes a sleeping sequencer, and `wake` keeps the other phases. -/
theorem sleepWakesAndHaltStays : Obligations.SleepWakesAndHaltStays := by
  refine fun s => ⟨fun hp => ?asleep, fun hp => ?awake, rfl⟩
  case asleep => rw [exec_sleep, hp, wake]
  case awake => rw [exec_sleep, wake_of_ne_sleep hp]

/-- Settles O34: the two grounds are the gate's. -/
theorem skippedIterationOnlyPolls : Obligations.SkippedIterationOnlyPolls := by
  rintro s cur hp rfl ground
  rw [exec_iterate_of_iter hp, iterateOnce_of_gate ((gateSkips_eq_true_iff _ _).mpr ground)]
  rfl

/-- Settles O35: the iteration is `buttonIteration`, whose counter is `buttonCount` of the event. -/
theorem dispatchedIterationActs : Obligations.DispatchedIterationActs := by
  intro s cur hp hcur changed released hc
  have through := (gateSkips_eq_false_iff _ _).mpr ⟨changed, released⟩
  refine ⟨buttonCount cur s.max s.value, ?_, ?_, ?_, ?_, ?_, ?_⟩
  · subst hcur
    rw [exec_iterate_of_iter hp, iterateOnce_of_button through hc]
    rfl
  · rintro rfl; rfl
  · rintro rfl; rfl
  · rintro rfl; rfl
  · rintro rfl; exact buttonCount_button2_toNat s.max s.value
  · rintro rfl; exact buttonCount_button3_toNat s.max s.value

/-- Settles O36: the iteration is `chordIteration`. -/
theorem chordIterationActs : Obligations.ChordIterationActs := by
  intro s hp hc hprev
  have through : gateSkips s.prev (pinsEvent s.params (sampleButtons s)) = false := by
    rw [hc]
    exact (gateSkips_multiple_eq_false_iff _).mpr hprev
  refine ⟨sampleSwitches (passButtons s), _, termAfter s.term (sampleSwitches (passButtons s)), rfl,
    wrapCount_toNat s.max _, ?_, termAfter_of_ne_zero s.term, ?_⟩
  · exact fun off => by simp [off]
  · rw [exec_iterate_of_iter hp, iterateOnce_of_chord through hc]
    rfl

/-- Settles O37: outside `PH_ITER` there is no iteration. -/
theorem iterateRestsOutsideIter : Obligations.IterateRestsOutsideIter := fun _ => exec_iterate_of_rest

end Sys2Proof.Proofs
end

section
/-! One step of the block running alone: what it can do, the invariant of reachable states, and the statements about
single steps (43_control_fsm.md section 4). -/

namespace Sys2Proof.Machine

/-! ## What a step can do -/

/-- The four kinds of step of a block running alone: a rest, or one of the three iterations. -/
inductive AloneStep (s : State) : State → Prop where
  | rest (resting : s.phase ≠ .iter) : AloneStep s { s with phase := wake s.phase }
  | skip (polling : s.phase = .iter)
      (held : gateSkips s.prev (pinsEvent s.params (sampleButtons s)) = true) : AloneStep s (skippedIteration s)
  | button (polling : s.phase = .iter)
      (through : gateSkips s.prev (pinsEvent s.params (sampleButtons s)) = false)
      (single : pinsEvent s.params (sampleButtons s) ≠ .multiple) : AloneStep s (buttonIteration s)
  | chord (polling : s.phase = .iter) (edge : s.prev ≠ .multiple)
      (several : pinsEvent s.params (sampleButtons s) = .multiple) : AloneStep s (chordIteration s)

theorem step_of_rest {s : State} (h : BlockAlone s) (hp : s.phase ≠ .iter) :
    step s = .next { s with phase := wake s.phase } := by
  rw [step_alone h]
  cases hph : s.phase with
  | iter => exact absurd hph hp
  | sleep => rfl
  | halt => exact congrArg Host.Outcome.next (by rw [wake, ← hph])

theorem step_of_iter {s : State} (h : BlockAlone s) (hp : s.phase = .iter) : step s = .next (iterateOnce s) := by
  rw [step_alone h, hp]

theorem iterateOnce_kind {s : State} (hp : s.phase = .iter) : AloneStep s (iterateOnce s) := by
  cases gate : gateSkips s.prev (pinsEvent s.params (sampleButtons s)) with
  | true => rw [iterateOnce_of_gate gate]; exact .skip hp gate
  | false =>
    by_cases hc : pinsEvent s.params (sampleButtons s) = .multiple
    · have edge : s.prev ≠ .multiple := (gateSkips_multiple_eq_false_iff _).mp (hc ▸ gate)
      rw [iterateOnce_of_chord gate hc]
      exact .chord hp edge hc
    · rw [iterateOnce_of_button gate hc]; exact .button hp gate hc

/-- A step of a block running alone completes, with one of the four kinds. -/
theorem step_aloneStep {s : State} (h : BlockAlone s) : ∃ t, step s = .next t ∧ AloneStep s t := by
  by_cases hp : s.phase = .iter
  · exact ⟨_, step_of_iter h hp, iterateOnce_kind hp⟩
  · exact ⟨_, step_of_rest h hp, .rest hp⟩

/-- Inversion of a step of a block running alone. -/
theorem aloneStep_of_step {s t : State} (h : BlockAlone s) (hs : step s = .next t) : AloneStep s t := by
  obtain ⟨u, hu, kind⟩ := step_aloneStep h
  cases hs.symm.trans hu
  exact kind

/-- With nothing offered the sequencer's own operation runs. -/
theorem step_unoffered {s : State} (hm : s.mapping = .valid) (ho : s.offered = []) :
    step s = exec (sequencerOp s.phase) s := by
  have running : heldInReset s = false := by simp [heldInReset, hm]
  rw [step, running, nextOperation, ho]
  rfl

theorem wake_eq_halt_iff (ph : Phase) : wake ph = .halt ↔ ph = .halt := by
  cases ph <;> decide

theorem termAfter_eq_true_iff (term : Bool) (swv : Word) : termAfter term swv = true ↔ term = true ∨ swv = 0 := by
  rw [termAfter, Config.switchExitSentinel, Bool.or_eq_true, beq_iff_eq]

end Sys2Proof.Machine

namespace Sys2Proof

open Machine

/-! ## The invariant of reachable states (rules R35, R133), kind by kind -/

section
variable {s : State} (h : Inv s)
include h

theorem inv_rest : Inv { s with phase := wake s.phase } where
  paramsWf := h.paramsWf
  maxIsMax := h.maxIsMax
  inRange := h.inRange
  runningTerm running := h.runningTerm fun hp => running ((wake_eq_halt_iff _).mpr hp)
  haltedState halted := h.haltedState ((wake_eq_halt_iff _).mp halted)
  ledsShown := h.ledsShown
  alone := h.alone

theorem inv_skippedIteration (polling : s.phase = .iter) : Inv (skippedIteration s) where
  paramsWf := by simpa [skippedIteration] using h.paramsWf
  maxIsMax := by simpa [skippedIteration] using h.maxIsMax
  inRange := by simpa [skippedIteration] using h.inRange
  runningTerm _ := by simpa [skippedIteration, polling] using h.runningTerm
  haltedState halted := absurd halted (by simp [skippedIteration])
  ledsShown := by simpa [skippedIteration] using h.ledsShown
  alone := by simpa [skippedIteration] using h.alone

/-- A button's action leaves the clear flag, so the loop goes on. -/
theorem inv_buttonIteration (polling : s.phase = .iter) : Inv (buttonIteration s) where
  paramsWf := by simpa [buttonIteration] using h.paramsWf
  maxIsMax := by simpa [buttonIteration] using h.maxIsMax
  inRange := by simpa [buttonIteration] using buttonCount_le _ h.inRange
  runningTerm _ := by simpa [buttonIteration, polling] using h.runningTerm
  haltedState halted := by
    have clear : s.term = false := h.runningTerm (by simp [polling])
    exact absurd halted (by simp [buttonIteration, clear])
  ledsShown _ := rfl
  alone := by simpa [buttonIteration] using h.alone

/-- A chord ends the loop exactly on the word 0, which loads 0. -/
theorem inv_chordIteration (polling : s.phase = .iter) : Inv (chordIteration s) where
  paramsWf := by simpa [chordIteration] using h.paramsWf
  maxIsMax := by simpa [chordIteration] using h.maxIsMax
  inRange := by simpa [chordIteration] using wrapCount_le s.max (sampleSwitches (passButtons s))
  runningTerm running := by simpa [chordIteration] using running
  haltedState halted := by
    have clear : s.term = false := h.runningTerm (by simp [polling])
    have ended : sampleSwitches (passButtons s) = 0 := by
      simpa [chordIteration, termAfter_eq_true_iff, clear] using halted
    simp [chordIteration, ended]
  ledsShown _ := rfl
  alone := by simpa [chordIteration] using h.alone

end

/-- The invariant holds at reset, however many values have been drawn. -/
theorem inv_resetWith {p : Params} (hwf : p.Wf) (leds : Word) (draws : Nat) :
    Inv { State.resetWith p leds with draws := draws } where
  paramsWf := hwf
  maxIsMax := rfl
  inRange := by
    obtain ⟨-, -, -, -, -, -, -, -, -, -, init, -⟩ := hwf
    exact init
  runningTerm _ := rfl
  haltedState halted := absurd halted (by simp [State.resetWith])
  ledsShown dispatched := absurd rfl dispatched
  alone := rfl

end Sys2Proof

namespace Sys2Proof.Proofs

open Sys2Proof.Machine

/-- Settles O48: a held block stays as it is, and each of the four kinds of step keeps the invariant. -/
theorem stepKeepsTheInvariant : Obligations.StepKeepsTheInvariant := by
  intro s t h hs
  by_cases hm : s.mapping = .valid
  · cases aloneStep_of_step ⟨hm, h.alone⟩ hs with
    | rest _ => exact inv_rest h
    | skip polling _ => exact inv_skippedIteration h polling
    | button polling _ _ => exact inv_buttonIteration h polling
    | chord polling _ _ => exact inv_chordIteration h polling
  · rw [step_held hm] at hs
    cases hs
    exact h

/-- Settles O49: reset clears `term` and `prev`, and `COUNTER_INIT` is admissible. -/
theorem resetMeetsTheInvariant : Obligations.ResetMeetsTheInvariant :=
  ⟨inv_resetWith Config.platform_wf _ 1, fun _ leds hwf => inv_resetWith hwf leds 0⟩

/-- Settles O38: each kind of step logs its own accesses. -/
theorem accessOrderOfAStep : Obligations.AccessOrderOfAStep := by
  intro s t halone hs
  cases aloneStep_of_step halone hs with
  | rest resting => exact ⟨fun _ => rfl, fun polling => absurd polling resting⟩
  | skip polling held =>
    refine ⟨fun resting => absurd polling resting, ?_⟩
    rintro - cur rfl
    simp [held, skippedIteration]
  | button polling through single =>
    refine ⟨fun resting => absurd polling resting, ?_⟩
    rintro - cur rfl
    simp [through, single, buttonIteration]
  | chord polling edge several =>
    have through := (gateSkips_multiple_eq_false_iff s.prev).mpr edge
    refine ⟨fun resting => absurd polling resting, ?_⟩
    rintro - cur rfl
    simp [several, through, chordIteration]

/-- Settles O41: only a chord's iteration sets `term`, on the switch word 0. -/
theorem exitExactlyOnChordEdge : Obligations.ExitExactlyOnChordEdge := by
  intro s t halone polling clear hs
  cases aloneStep_of_step halone hs with
  | rest resting => exact absurd polling resting
  | skip _ held =>
    have noEdge : pinsEvent s.params (sampleButtons s) = .multiple → s.prev = .multiple := fun several =>
      (gateSkips_multiple_eq_true_iff _).mp (several ▸ held)
    exact ⟨fun halted => absurd halted (by simp [skippedIteration]),
      fun ⟨edge, several, _⟩ => absurd (noEdge several) edge⟩
  | button _ _ single => simp [buttonIteration, clear, single]
  | chord _ edge several => simp [chordIteration, termAfter_eq_true_iff, clear, several, edge]

/-- Settles O43: a dispatched iteration writes the new counter to `LEDS`, and the other steps write neither. -/
theorem ledsFollowTheCounter : Obligations.LedsFollowTheCounter := by
  intro s t halone hs
  cases aloneStep_of_step halone hs with
  | rest resting => exact ⟨id, fun polling => absurd polling resting⟩
  | skip _ held => simp [skippedIteration, held]
  | button => exact ⟨fun _ => rfl, fun _ _ => rfl⟩
  | chord => exact ⟨fun _ => rfl, fun _ _ => rfl⟩

/-- Settles O50: `resetWith` writes every element, and the platform's parameters are admissible. -/
theorem resetSetsEveryElement : Obligations.ResetSetsEveryElement := fun _ =>
  ⟨rfl, rfl, rfl, rfl, rfl, rfl, rfl, rfl, rfl, rfl, Config.platform_wf, rfl, rfl, rfl, rfl, rfl, rfl⟩

/-- Settles O51: an offered command comes first, else the sequencer's own operation. -/
theorem stepRunsTheOperation : Obligations.StepRunsTheOperation := by
  refine fun s hm => ⟨?decoded, ?rejected, ?iter, ?sleep, ?halt⟩
  case decoded => intro c later i ho hi; rw [step_offered hm ho, hi]
  case rejected => intro c later r ho hr; rw [step_offered hm ho, hr]
  case iter => intro ho hp; rw [step_unoffered hm ho, hp, sequencerOp]
  case sleep => intro ho hp; rw [step_unoffered hm ho, hp, sequencerOp]
  case halt => intro ho hp; rw [step_unoffered hm ho, hp, sequencerOp]

/-- Settles O52: the polled word decodes to the action of the polled event, and `finishIteration` is the tail. -/
theorem stepRunsThePolledAction : Obligations.StepRunsThePolledAction := by
  intro s i halone polling hi through
  obtain ⟨params, -⟩ := runEvent_frame (pinsEvent s.params (sampleButtons s)) (issueReadButtons s)
  have action : eventAction _ (pinsEvent s.params (sampleButtons s)) = i := Except.ok.inj hi
  refine ⟨runEvent (pinsEvent s.params (sampleButtons s)) (issueReadButtons s), ?read, ?tail⟩
  case read =>
    rw [← action, exec_eventAction, issueReadButtons_eq_passButtons]
  case tail =>
    rw [step_of_iter halone polling, iterateOnce_of_open through, finishIteration_eq, params, issueReadButtons_eq]

end Sys2Proof.Proofs
end

section
/-! Runs of the block alone: a halted block, and polls the gate holds (43_control_fsm.md section 4, rules R128, R129 and
R132). -/

namespace Sys2Proof.Machine

theorem runSteps_of_step {s t : State} (h : step s = .next t) (k : Nat) : runSteps (k + 1) s = runSteps k t := by
  rw [runSteps, h]

/-- A state a step keeps is kept for ever. -/
theorem runSteps_fixed {s : State} (h : step s = .next s) (k : Nat) : runSteps k s = .next s := by
  induction k with
  | zero => rfl
  | succ k ih => rw [runSteps_of_step h, ih]

theorem step_halted {s : State} (ho : s.offered = []) (hp : s.phase = .halt) : step s = .next s := by
  by_cases hm : s.mapping = .valid
  · rw [step_alone ⟨hm, ho⟩, hp]
  · exact step_held hm

/-! ## Polls the gate holds -/

/-- Such a poll and the wake after it change nothing but the sample taken and the read logged. -/
theorem runSteps_heldPoll {s : State} {b : BitVec 4} {later : List (BitVec 4)} (h : BlockAlone s)
    (hp : s.phase = .iter) (hb : s.btnIn = b :: later)
    (held : gateSkips s.prev (pinsEvent s.params b) = true) :
    runSteps 2 s = .next { s with btnIn := later, bus := s.bus ++ [buttonsRead s.params b] } := by
  rw [← sampleButtons_of_btnIn_cons hb] at held ⊢
  have slept : BlockAlone (skippedIteration s) := by simpa [skippedIteration] using h
  rw [runSteps_of_step (step_of_iter h hp), iterateOnce_of_gate held,
    runSteps_of_step (step_of_rest slept (by simp [skippedIteration])), skippedIteration,
    passButtons_of_btnIn_cons hb, runSteps, wake, ← hp]

/-- Any number of such polls, by induction on the list. -/
theorem runSteps_heldPolls {s : State} {held later : List (BitVec 4)} (h : BlockAlone s) (hp : s.phase = .iter)
    (hb : s.btnIn = held ++ later) (hheld : ∀ b ∈ held, gateSkips s.prev (pinsEvent s.params b) = true) :
    runSteps (2 * held.length) s =
      .next { s with btnIn := later, bus := s.bus ++ held.map (buttonsRead s.params) } := by
  induction held generalizing s with
  | nil =>
    rw [List.nil_append] at hb
    rw [List.map_nil, List.append_nil, ← hb]
    rfl
  | cons b rest ih =>
    rw [List.forall_mem_cons] at hheld
    obtain ⟨first, others⟩ := hheld
    have one := runSteps_heldPoll (later := rest ++ later) h hp hb first
    have more := ih (s := { s with btnIn := rest ++ later, bus := s.bus ++ [buttonsRead s.params b] })
      h hp rfl others
    rw [List.length_cons, Nat.mul_succ, Nat.add_comm, runSteps_add 2 _ one, more, List.map_cons,
      List.append_assoc, List.singleton_append]

/-- The four lines read `None` exactly with no button active (rule R108). -/
theorem pinsEvent_eq_none_iff (p : Params) (b : BitVec 4) : pinsEvent p b = .none ↔ b = 0 := by
  change decodeButtons p.evHighSingle (zextButtons b) = .none ↔ b = 0
  rw [decodeButtons_zext]
  revert b
  decide

/-- A poll that reads no button re-arms the block and leaves the counter (rule R129). -/
theorem step_released {s : State} {later : List (BitVec 4)} (h : BlockAlone s) (hp : s.phase = .iter)
    (hprev : s.prev = .multiple) (hb : s.btnIn = 0 :: later) :
    ∃ t, step s = .next t ∧ t.prev = .none ∧ t.value = s.value := by
  have released : pinsEvent s.params (sampleButtons s) = .none := by
    rw [sampleButtons_of_btnIn_cons hb, pinsEvent_eq_none_iff]
  have through : gateSkips s.prev (pinsEvent s.params (sampleButtons s)) = false := by
    rw [released, hprev]
    rfl
  refine ⟨buttonIteration s, ?_, released, ?_⟩
  · rw [step_of_iter h hp, iterateOnce_of_button through (by simp [released])]
  · simp [buttonIteration, released, buttonCount]

end Sys2Proof.Machine

namespace Sys2Proof.Proofs

open Sys2Proof.Machine

/-- Settles O42: a halted block's step is the identity. -/
theorem haltIsForever : Obligations.HaltIsForever := fun _ k ho hp =>
  ⟨runSteps_fixed (step_halted ho hp) k, decide_eq_true hp⟩

/-- Settles O40: the gate holds an event that did not change. -/
theorem heldInputActsOnce : Obligations.HeldInputActsOnce := by
  intro s held later halone hp hb same
  exact runSteps_heldPolls halone hp hb fun b hmem =>
    (gateSkips_eq_true_iff _ _).mpr (.inr (same b hmem))

/-- Settles O39: out of a chord the gate holds every event but `None`, which re-arms the block. -/
theorem chordReleaseIsSuppressed : Obligations.ChordReleaseIsSuppressed := by
  intro s held later halone hp hprev hb active
  have run := runSteps_heldPolls halone hp hb fun b hmem =>
    (gateSkips_eq_true_iff _ _).mpr (.inl ⟨hprev, mt (pinsEvent_eq_none_iff _ b).mp (active b hmem)⟩)
  refine ⟨run, ?rearmed⟩
  case rearmed =>
    rw [runSteps_add _ 1 run]
    obtain ⟨t, hstep, hnone, hvalue⟩ := step_released (s := { s with
      btnIn := 0 :: later, bus := s.bus ++ held.map (buttonsRead s.params) }) halone hp hprev rfl
    exact ⟨t, runSteps_of_step hstep 0, hnone, hvalue⟩

end Sys2Proof.Proofs
end

section
/-! What a step does not depend on: the word in `LEDS`, and outside a new chord the switches (rules R54, R57 and
R175). -/

namespace Sys2Proof.Machine

/-! ## `LEDS` is never read back -/

section
variable (s : State) (x : Word)

theorem issueReadButtons_setLeds : issueReadButtons (s.setLeds x) = (issueReadButtons s).setLeds x := by
  rw [issueReadButtons_eq, issueReadButtons_eq]
  rfl

theorem issueReadSwitches_setLeds : issueReadSwitches (s.setLeds x) = (issueReadSwitches s).setLeds x := by
  rw [issueReadSwitches_eq, issueReadSwitches_eq]
  rfl

theorem runEvent_setLeds (cur : ButtonEvent) : runEvent cur (s.setLeds x) = (runEvent cur s).setLeds x := by
  cases cur
  case multiple =>
    rw [runEvent, runEvent, multipleAction_eq, multipleAction_eq]
    rfl
  all_goals rfl

theorem finishIteration_setLeds (cur : ButtonEvent) :
    finishIteration cur (s.setLeds x) = finishIteration cur s := rfl

/-- A skipped iteration keeps the word, a dispatched one overwrites it. -/
theorem iterateOnce_setLeds : ∃ y, iterateOnce (s.setLeds x) = (iterateOnce s).setLeds y := by
  cases gate : gateSkips s.prev (pinsEvent s.params (sampleButtons s)) with
  | true =>
    refine ⟨x, ?_⟩
    rw [iterateOnce_of_gate gate, iterateOnce_of_gate (s := s.setLeds x) gate, skippedIteration, skippedIteration,
      passButtons_eq, passButtons_eq]
    rfl
  | false =>
    refine ⟨(iterateOnce s).leds, ?_⟩
    rw [iterateOnce_of_open gate, iterateOnce_of_open (s := s.setLeds x) gate, issueReadButtons_setLeds,
      runEvent_setLeds, finishIteration_setLeds]
    rfl

end

/-- Every operation: the reads and the actions pass the word through, the writes of `LEDS` overwrite it. -/
theorem exec_setLeds {i : Instr} {s t : State} (x : Word) (h : exec i s = .next t) :
    ∃ y, exec i (s.setLeds x) = .next (t.setLeds y) := by
  cases i
  case evMulti w =>
    cases h
    exact ⟨x, congrArg Host.Outcome.next (runEvent_setLeds s x .multiple)⟩
  case dispatch cur =>
    cases h
    exact ⟨x, congrArg Host.Outcome.next (runEvent_setLeds s x cur)⟩
  case rdButtons =>
    cases h
    exact ⟨x, by rw [exec_rdButtons, issueReadButtons_setLeds]; rfl⟩
  case poll =>
    cases h
    exact ⟨x, by rw [exec_poll, issueReadButtons_setLeds]; rfl⟩
  case rdSwitches =>
    cases h
    exact ⟨x, by rw [exec_rdSwitches, issueReadSwitches_setLeds]; rfl⟩
  case wrLeds r =>
    cases h
    exact ⟨r, rfl⟩
  case ledUpdate =>
    cases h
    exact ⟨s.value, rfl⟩
  case access we off =>
    by_cases inside : off.toNat + 4 ≤ s.params.span
    · rw [exec_access_inside we inside] at h
      cases h
      exact ⟨x, exec_access_inside (s := s.setLeds x) we inside⟩
    · rw [exec_access_outside we (Nat.not_le.mp inside)] at h
      cases h
  case iterate =>
    by_cases polling : s.phase = .iter
    · rw [exec_iterate_of_iter polling] at h
      cases h
      obtain ⟨y, hy⟩ := iterateOnce_setLeds s x
      exact ⟨y, by rw [exec_iterate_of_iter (s := s.setLeds x) polling, hy]⟩
    · rw [exec_iterate_of_rest polling] at h
      cases h
      exact ⟨x, exec_iterate_of_rest polling⟩
  all_goals
    cases h
    exact ⟨x, rfl⟩

theorem step_setLeds {s t : State} (x : Word) (h : step s = .next t) :
    ∃ y, step (s.setLeds x) = .next (t.setLeds y) := by
  by_cases hm : s.mapping = .valid
  · cases ho : s.offered with
    | nil =>
      rw [step_unoffered hm ho] at h
      rw [step_unoffered (s := s.setLeds x) hm ho]
      exact exec_setLeds x h
    | cons c later =>
      rw [step_offered hm ho] at h
      rw [step_offered (s := s.setLeds x) hm ho, State.setLeds_params]
      cases hd : decode s.params c with
      | ok i =>
        rw [hd] at h
        exact exec_setLeds x h
      | error reason =>
        rw [hd] at h
        cases h
  · rw [step_held hm] at h
    cases h
    exact ⟨x, step_held hm⟩

/-! ## The switches outside a new chord -/

section
variable (s : State) (pins : List Word)

theorem skippedIteration_setSwIn : skippedIteration (s.setSwIn pins) = (skippedIteration s).setSwIn pins := by
  rw [skippedIteration, skippedIteration, passButtons_eq, passButtons_eq]
  rfl

theorem buttonIteration_setSwIn : buttonIteration (s.setSwIn pins) = (buttonIteration s).setSwIn pins := by
  rw [buttonIteration, buttonIteration, passButtons_eq, passButtons_eq]
  rfl

end

end Sys2Proof.Machine

namespace Sys2Proof.Proofs

open Sys2Proof.Machine

/-- Settles O44: no operation and no choice of operation looks at `LEDS`. -/
theorem ledsAreNeverReadBack : Obligations.LedsAreNeverReadBack := fun _ _ x h => step_setLeds x h

/-- Settles O45: of the four kinds of step only a chord's reads the switches. -/
theorem switchesMatterOnlyToChordEdges : Obligations.SwitchesMatterOnlyToChordEdges := by
  intro s t pins halone noEdge hs
  have otherPins : BlockAlone (s.setSwIn pins) := halone
  change step (s.setSwIn pins) = .next (t.setSwIn pins)
  cases aloneStep_of_step halone hs with
  | rest resting => exact step_of_rest otherPins resting
  | skip polling held =>
    rw [step_of_iter otherPins polling, iterateOnce_of_gate (s := s.setSwIn pins) held, skippedIteration_setSwIn]
  | button polling through single =>
    rw [step_of_iter otherPins polling, iterateOnce_of_button (s := s.setSwIn pins) through single,
      buttonIteration_setSwIn]
  | chord polling edge several => exact absurd ⟨polling, edge, several⟩ noEdge

end Sys2Proof.Proofs
end

section
/-! Every operation of the table: that it completes, and which elements of the state it may change (rules R20 and
R145). -/

namespace Sys2Proof.Machine

/-! ## Completion -/

/-- Only `ACCESS` looks at its operand before it answers. -/
theorem exec_completes (i : Instr) (s : State) :
    (∃ t, exec i s = .next t) ∨ ∃ we off, i = .access we off ∧ s.params.span < off.toNat + 4 := by
  cases i
  case access we off =>
    by_cases inside : off.toNat + 4 ≤ s.params.span
    · exact .inl ⟨_, exec_access_inside we inside⟩
    · exact .inr ⟨we, off, rfl, Nat.not_le.mp inside⟩
  case iterate =>
    by_cases polling : s.phase = .iter
    · exact .inl ⟨_, exec_iterate_of_iter polling⟩
    · exact .inl ⟨_, exec_iterate_of_rest polling⟩
  all_goals exact .inl ⟨_, rfl⟩

/-! ## What an action and an iteration may change -/

/-- Only `Multiple`'s action touches the flag. -/
theorem eq_multiple_of_runEvent_term_ne {cur : ButtonEvent} {s : State} (h : (runEvent cur s).term ≠ s.term) :
    cur = .multiple := by
  by_contra hc
  exact h (by rw [runEvent_eq_of_ne_multiple hc])

/-- No action clears the flag (rule R24). -/
theorem runEvent_term (cur : ButtonEvent) (s : State) : (runEvent cur s).term = true ∨ s.term = false := by
  by_cases hc : cur = .multiple
  · rw [hc, runEvent, multipleAction_eq]
    cases s.term <;> simp [termAfter]
  · rw [runEvent_eq_of_ne_multiple hc]
    exact Bool.eq_false_or_eq_true s.term

/-- An iteration keeps what no operation writes, and does not clear the flag. -/
theorem iterateOnce_keeps (s : State) :
    (iterateOnce s).params = s.params ∧ (iterateOnce s).max = s.max ∧ (iterateOnce s).mapping = s.mapping ∧
    (iterateOnce s).offered = s.offered ∧ ((iterateOnce s).term = true ∨ s.term = false) := by
  cases gate : gateSkips s.prev (pinsEvent s.params (sampleButtons s)) with
  | true =>
    rw [iterateOnce_of_gate gate]
    simp [skippedIteration]
  | false =>
    rw [iterateOnce_of_open gate, finishIteration_eq, issueReadButtons_eq]
    obtain ⟨params, max, -, -, -, mapping, -, -, offered, -⟩ := runEvent_frame _ _
    exact ⟨params, max, mapping, offered, runEvent_term _ _⟩

end Sys2Proof.Machine

namespace Sys2Proof.Proofs

open Sys2Proof.Machine

/-- Settles O46: a step runs one operation, and the sequencer's own are no `ACCESS`. -/
theorem nothingStopsTheBlock : Obligations.NothingStopsTheBlock := by
  refine ⟨fun s ho => ?steps, fun i s => ?operations⟩
  case steps =>
    by_cases hm : s.mapping = .valid
    · obtain ⟨t, hs, -⟩ := step_aloneStep ⟨hm, ho⟩
      exact ⟨t, hs⟩
    · exact ⟨s, step_held hm⟩
  case operations =>
    refine (exec_completes i s).imp_right ?_
    rintro ⟨we, off, rfl, outside⟩
    exact ⟨we, off, rfl, outside, exec_access_outside we outside⟩

/-- Settles O47: operation by operation, through what the shared operations keep. -/
theorem onlyTheirWritersWrite : Obligations.OnlyTheirWritersWrite := by
  intro i s t h
  cases i
  case access we off =>
    by_cases inside : off.toNat + 4 ≤ s.params.span
    · rw [exec_access_inside we inside] at h
      cases h
      simp
    · rw [exec_access_outside we (Nat.not_le.mp inside)] at h
      cases h
  case iterate =>
    by_cases polling : s.phase = .iter
    · rw [exec_iterate_of_iter polling] at h
      cases h
      simpa using iterateOnce_keeps s
    · rw [exec_iterate_of_rest polling] at h
      cases h
      simp
  case dispatch cur =>
    cases h
    obtain ⟨params, max, prev, phase, leds, mapping, -, -, offered, -⟩ := runEvent_frame cur s
    have term := runEvent_term cur s
    have chord := eq_multiple_of_runEvent_term_ne (cur := cur) (s := s)
    simpa [params, max, prev, phase, leds, mapping, offered, term] using chord
  case evMulti w =>
    cases h
    obtain ⟨params, max, prev, phase, leds, mapping, -, -, offered, -⟩ := runEvent_frame .multiple s
    have term := runEvent_term .multiple s
    simp [params, max, prev, phase, leds, mapping, offered, term]
  case rdButtons =>
    cases h
    simp [issueReadButtons_eq]
  case poll =>
    cases h
    simp [issueReadButtons_eq]
  case rdSwitches =>
    cases h
    simp [issueReadSwitches_eq]
  all_goals
    cases h
    simp [runEvent, incCounter, decCounter, applyCounter, loadCounter, updateLeds, writeLeds]

end Sys2Proof.Proofs
end

section
/-! The encoding: what the decoder reads from each format, and the statements about encoded words, unused codes and
undescribed `BUS` commands (30_encoding.md). -/

namespace Sys2Proof

open Machine

/-! ## What the decoder reads from a command -/

theorem decode_btn (p : Params) (w : Word) :
    decode p ⟨.btn, w, []⟩ = .ok (eventAction w (decodeButtons p.evHighSingle w)) := rfl

theorem decode_btn_of_event {p : Params} {w : Word} {e : ButtonEvent} (h : decodeButtons p.evHighSingle w = e) :
    decode p ⟨.btn, w, []⟩ = .ok (eventAction w e) := by
  rw [decode_btn, h]

/-- Rule R66: `decodeBus` finds the fields `busCode` wrote. -/
theorem decode_busCode (p : Params) (we : Bool) (off : Offset) (operands : List Word) :
    decode p ⟨.bus, busCode we off, operands⟩ =
      if we then
        if off = p.offLeds then
          withOperand .bus (busCode we off).toNat operands fun wdata => .ok (.wrLeds wdata)
        else .error (.undescribedAccess true off)
      else if off = p.offButtons then withoutOperand .bus (busCode we off).toNat operands .rdButtons
      else if off = p.offSwitches then withoutOperand .bus (busCode we off).toNat operands .rdSwitches
      else .error (.undescribedAccess false off) := by
  have fits : ¬ 2 ^ 16 ≤ (busCode we off).toNat := Nat.not_le.mpr (busCode_lt we off)
  rw [decode, decodeBus, if_neg fits, busWe_busCode, busOff_busCode]

theorem accessOperand_busCode (we : Bool) (off : Offset) :
    accessOperand (busCode we off) = .ok (.access we off) := by
  have fits : ¬ 2 ^ 16 ≤ (busCode we off).toNat := Nat.not_le.mpr (busCode_lt we off)
  rw [accessOperand, if_neg fits, busWe_busCode, busOff_busCode]

theorem eventOperand_eventCode (make : ButtonEvent → Instr) (e : ButtonEvent) :
    eventOperand make (eventCode e) = .ok (make e) := by
  rw [eventOperand, decodeEvent_eventCode, Except.map]

theorem decodeApply_encodeTransform (f : Transform) : decodeApply (encodeTransform f) = .ok (.apply f) := by
  cases f with
  | shr => rfl
  | shl => rfl
  | load swv => rfl
  | table rows otherwise =>
    change decodeTable (otherwise :: encodeRows rows) = _
    rw [decodeTable, decodeRows_encodeRows]

/-! ## Decoding what was encoded -/

/-- Of the parameters only the two input registers' offsets have to be apart. -/
theorem decode_encode {p : Params} {i : Instr} (hne : p.offSwitches ≠ p.offButtons) (hi : i.wellFormed = true) :
    decode p (encode p i) = .ok i := by
  obtain ⟨none, button0, button1, button2, button3⟩ := decodeButtons_oneHot p.evHighSingle
  cases i
  case evNone => exact decode_btn_of_event none
  case evBtn0 => exact decode_btn_of_event button0
  case evBtn1 => exact decode_btn_of_event button1
  case evBtn2 => exact decode_btn_of_event button2
  case evBtn3 => exact decode_btn_of_event button3
  case evMulti w => exact decode_btn_of_event (decodeButtons_multiple (of_decide_eq_true hi))
  case rdButtons => simp [encode, decode_busCode, withoutOperand]
  case rdSwitches => simp [encode, decode_busCode, withoutOperand, hne]
  case wrLeds r => simp [encode, decode_busCode, withOperand]
  case access we off => exact accessOperand_busCode we off
  case apply f => exact decodeApply_encodeTransform f
  case gate cur => exact eventOperand_eventCode .gate cur
  case dispatch cur => exact eventOperand_eventCode .dispatch cur
  case prevUpdate cur => exact eventOperand_eventCode .prevUpdate cur
  all_goals rfl

/-! ## A `BUS` command other than the three -/

/-- A word with rule R66's fields is the word `busCode` writes. -/
theorem eq_busCode {code : Word} {we : Bool} {off : Offset}
    (h : code.toNat = (if we then 0x8000 else 0) + off.toNat) : code = busCode we off := by
  apply BitVec.eq_of_toNat_eq
  rw [h, busCode_toNat, Nat.add_comm]
  rfl

/-- The step that takes it is refused as the register bank refuses the access (rule R71). -/
theorem step_undescribedBus {s : State} {we : Bool} {off : Offset} {data : List Word} {later : List Command}
    (hm : s.mapping = .valid) (ho : s.offered = ⟨.bus, busCode we off, data⟩ :: later)
    (h : if we then off ≠ s.params.offLeds else off ≠ s.params.offButtons ∧ off ≠ s.params.offSwitches) :
    step s = .refused (undescribedAccess s.params we off.toNat) := by
  have rejected : decode s.params ⟨.bus, busCode we off, data⟩ = .error (.undescribedAccess we off) :=
    decodeBus_undescribed data h
  rw [step_offered hm ho, rejected]
  rfl

end Sys2Proof

namespace Sys2Proof.Proofs

open Sys2Proof.Machine

/-- Settles O53: admissible parameters keep the registers apart. -/
theorem decodeReadsEveryEncoding : Obligations.DecodeReadsEveryEncoding := by
  intro p i hwf hi
  obtain ⟨-, -, -, -, -, hne, -⟩ := hwf
  exact decode_encode hne hi

/-- Settles O26: the decoder is the one-hot classifier of the four lines. -/
theorem buttonWordsSelectActions : Obligations.ButtonWordsSelectActions := by
  intro p b
  change decode p ⟨.btn, zextButtons b, []⟩ = _
  rw [decode_btn, decodeButtons_zext]
  revert b
  decide

/-- Settles O54: each word is the encoding of its operation with these offsets. -/
theorem writtenOutWordsDecode : Obligations.WrittenOutWordsDecode := by
  intro p hbtn hsw hleds
  have hne : p.offSwitches ≠ p.offButtons := by rw [hsw, hbtn]; decide
  have busWords : encode p .rdButtons = ⟨.bus, 0b0000000001010000, []⟩ ∧
      encode p .rdSwitches = ⟨.bus, 0b0000000001000000, []⟩ ∧
      encode p (.wrLeds 0xA) = ⟨.bus, 0b1000000000000000, [0xA]⟩ := by
    simp only [encode, hbtn, hsw, hleds]
    decide
  obtain ⟨rdButtons, rdSwitches, wrLeds⟩ := busWords
  rw [← rdButtons, ← rdSwitches, ← wrLeds]
  exact ⟨decode_encode (i := .evBtn2) hne rfl, decode_encode (i := .evMulti 0b1010) hne (by decide),
    decode_encode hne rfl, decode_encode hne rfl, decode_encode hne rfl,
    decode_encode (i := .dec) hne rfl, decode_encode (i := .load 0x3FF) hne rfl,
    decode_encode (i := .ledUpdate) hne rfl, decode_encode (i := .dispatch .multiple) hne rfl⟩

/-- Settles O55: no code a format assigns is among these. -/
theorem unusedCodesAreRejected : Obligations.UnusedCodesAreRejected := by
  intro p code operands
  refine ⟨fun h => ?cnt, fun h => ?seq, fun h => ?bus, fun h => ?event⟩
  case cnt => simp only [decode, decodeCnt]; simp (disch := omega) only [if_neg]
  case seq =>
    have unused : code.toNat = 0 ∨ 8 ≤ code.toNat := h.imp_left (congrArg BitVec.toNat)
    simp only [decode, decodeSeq]
    simp (disch := omega) only [if_neg]
  case bus => exact if_pos h
  case event => simp only [decodeEvent]; simp (disch := omega) only [if_neg]

/-- Settles O58: the decoder rejects the command by its fields, and the step answers as the register bank does. -/
theorem undescribedBusCommandsAreRefused : Obligations.UndescribedBusCommandsAreRefused := by
  intro s we off code data later hwf hm hcode ho
  obtain ⟨-, hspan, hsw, hbtn, hleds, -, hsl, hbl, -⟩ := hwf
  rw [eq_busCode hcode] at ho
  have apart {reg : Offset} (h : off ≠ reg) : off.toNat ≠ reg.toNat := fun heq => h (BitVec.eq_of_toNat_eq heq)
  have misplaced (h : s.params.span < off.toNat + 4 ∨ off.toNat % 4 ≠ 0) :
      step s = .refused (undescribedAccess s.params we off.toNat) := by
    have notRegister {reg : Offset} (hreg : s.params.OffsetWf reg) : off ≠ reg := fun heq =>
      ne_register_of_misplaced hreg h (congrArg BitVec.toNat heq)
    apply step_undescribedBus hm ho
    cases we
    · exact ⟨notRegister hbtn, notRegister hsw⟩
    · exact notRegister hleds
  refine ⟨?read, ?write, ?outside, ?misaligned, ?leds, ?readOnly⟩
  case read =>
    rintro rfl hb hs
    exact ⟨_, step_undescribedBus hm ho ⟨hb, hs⟩, memRead_undescribed (apart hs) (apart hb)⟩
  case write =>
    rintro rfl hl
    exact ⟨_, step_undescribedBus hm ho hl, fun v => memWrite_undescribed v (apart hl)⟩
  case outside =>
    intro hoff
    rw [← hspan] at hoff
    rw [misplaced (.inl hoff), undescribedAccess_outside _ hoff]
  case misaligned =>
    intro hmod hoff
    rw [← hspan] at hoff
    rw [misplaced (.inr hmod), undescribedAccess_unmapped _ hoff (ne_register_of_misplaced hsw (.inr hmod))
      (ne_register_of_misplaced hbtn (.inr hmod)) (ne_register_of_misplaced hleds (.inr hmod))]
  case leds =>
    rintro rfl rfl
    rw [step_undescribedBus hm ho ⟨hbl.symm, hsl.symm⟩, undescribedAccess_readOfLeds hleds]
  case readOnly =>
    rintro rfl (rfl | rfl)
    · rw [step_undescribedBus hm ho hsl, undescribedAccess_writeOfReadOnly hsw.1 (.inl rfl)]
    · rw [step_undescribedBus hm ho hbl, undescribedAccess_writeOfReadOnly hbtn.1 (.inr rfl)]

end Sys2Proof.Proofs
end

section
/-! The host's side: what Finalize answers, and the statements about the end of a run (60_exceptions.md). -/

namespace Sys2Proof.Machine

/-! ## What Finalize answers (rules R152, R154) -/

theorem halted_eq_true_iff (s : State) : s.halted = true ↔ s.phase = .halt := decide_eq_true_iff

theorem hostFinalize_halted {s : State} (hm : s.mapping = .valid) (hp : s.phase = .halt) :
    hostFinalize s = .next { s with mapping := .released } := by
  rw [hostFinalize, hm, (halted_eq_true_iff s).mpr hp]
  rfl

theorem hostFinalize_running {s : State} (hm : s.mapping = .valid) (hp : s.phase ≠ .halt) :
    hostFinalize s = .refused .finalizeTooEarly := by
  rw [hostFinalize, hm]
  exact if_neg (mt (halted_eq_true_iff s).mp hp)

theorem hostFinalize_absent {s : State} (h : s.mapping = .absent) :
    hostFinalize s = .refused .finalizeTooEarly := by
  rw [hostFinalize, h]

theorem hostFinalize_released {s : State} (h : s.mapping = .released) :
    hostFinalize s = .refused .finalizeAgain := by
  rw [hostFinalize, h]

end Sys2Proof.Machine

namespace Sys2Proof.Proofs

open Sys2Proof.Machine

/-- Settles O57: Finalize answers by the mapping and the phase it finds. -/
theorem finalizeOnceAfterTheLoop : Obligations.FinalizeOnceAfterTheLoop := by
  refine fun s => ⟨fun hm hp => ?returned, fun hm hp => ?running, hostFinalize_absent, hostFinalize_released⟩
  case returned =>
    exact ⟨hostFinalize_halted hm hp, hostFinalize_released rfl, if_pos ((halted_eq_true_iff s).mpr hp)⟩
  case running =>
    exact ⟨hostFinalize_running hm hp, if_neg (mt (halted_eq_true_iff s).mp hp)⟩

/-- Settles O59: a reset keeps the mapping released, and a block whose mapping is not valid is held. -/
theorem nothingRunsAfterFinalize : Obligations.NothingRunsAfterFinalize := by
  intro s k released
  have held : s.mapping ≠ .valid := by simp [released]
  have heldAfterReset : (hostReset s).mapping ≠ .valid := held
  have initialized : (hostReset s).mapping ≠ .absent := by simp [hostReset, released]
  exact ⟨runSteps_held held k, runSteps_held heldAfterReset k, hostInitialize_again initialized⟩

end Sys2Proof.Proofs
end
